-- ==== Sys2Proof/Word.lean ====
section
/-! DEFINITION. The word types of the core: bytes and 16-bit words (spec/00_scope.md R6, R8). -/

namespace Sys2Proof

/-- A byte: a register A, X, Y, SP or Status, or one memory byte (R6: 8 bits). -/
abbrev Byte := BitVec 8

/-- A 16-bit word: PC or a memory address (R6: 16 bits). -/
abbrev Word := BitVec 16

end Sys2Proof
end

