-- ==== Sys2Proof/Machine/Bits.lean ====
section
/-! DEFINITION. Bit fields, concatenation and extension, in the notation of spec/00_scope.md R7 and R9. -/

namespace Sys2Proof

/-- `hi8(w)` is `w[15:8]` (R7). -/
def hi8 (w : Word) : Byte := w.extractLsb' 8 8

/-- `lo8(w)` is `w[7:0]` (R7). -/
def lo8 (w : Word) : Byte := w.extractLsb' 0 8

/-- The concatenation `{h, l}`, that is `h*256 + l` (R7). -/
def word (h l : Byte) : Word := BitVec.ofNat 16 (h.toNat * 256 + l.toNat)

/-- `zext_16(v)`: the same number as a word (R9). -/
def zext16 (v : Byte) : Word := v.setWidth 16

/-- `sext_8(v)` as a 16-bit addend: `v` if `v < 128`, else `v - 256`, modulo 65536 (R9). -/
def sext16 (v : Byte) : Word := v.signExtend 16

end Sys2Proof
end

