-- ==== Sys2Proof/Syntax.lean ====
section
/-! DEFINITION. The instructions: one constructor per row of the opcode map (spec/30_encoding.md R56), and the names of
mnemonics, operand forms and mode tags the spec uses. -/

namespace Sys2Proof

/-- The 55 mnemonics: the 53 of R3, and SEI and SED, mapped only under P_SEI_SED (R139). -/
inductive Mnemonic where
  | lda | ldx | ldy | sta | stx | sty | tax | tay | txa | tya | tsx | txs | inx | iny
  | dex | dey | inc | dec | and | ora | eor | asl | lsr | rol | ror | adc | sbc | cmp
  | cpx | cpy | bit | bcc | bcs | beq | bne | bmi | bpl | bvc | bvs | jmp | jsr | rts
  | pha | pla | php | plp | sec | clc | cli | cld | clv | nop | brk | sei | sed
deriving DecidableEq, Repr

/-- The operand forms (R52). -/
inductive Form where
  | imp | acc | imm | zp | zpx | zpy | abs | absx | absy | indx | indy | rel | jabs | ind
deriving DecidableEq, Repr

/-- The ten addressing-mode tags of an opcode-table entry (R6, R53). -/
inductive ModeTag where
  | immediate | zeroPage | zeroPageX | zeroPageY | absolute | absoluteX | absoluteY | indirectX | indirectY
  | none
deriving DecidableEq, Repr

/-- A decoded operand of one of the nine resolver modes, with its operand byte or little-endian word (R52, R53). -/
inductive MemOperand where
  | imm (b : Byte)
  | zp (b : Byte)
  | zpx (b : Byte)
  | zpy (b : Byte)
  | abs (w : Word)
  | absx (w : Word)
  | absy (w : Word)
  | indx (b : Byte)
  | indy (b : Byte)
deriving DecidableEq, Repr

/-- A decoded operand of any form (R52). -/
inductive Operand where
  | imp
  | acc
  | mem (o : MemOperand)
  | rel (b : Byte)
  | jabs (w : Word)
  | ind (w : Word)
deriving DecidableEq, Repr

/-- The instructions, in the order of R3: one constructor per row of the opcode map (R56), named by mnemonic and form. `b`
is the operand byte, `w` the operand word (R50, R52). -/
inductive Instr where
  | ldaImm (b : Byte)
  | ldaZp (b : Byte)
  | ldaZpx (b : Byte)
  | ldaAbs (w : Word)
  | ldaAbsx (w : Word)
  | ldaAbsy (w : Word)
  | ldaIndx (b : Byte)
  | ldaIndy (b : Byte)
  | ldxImm (b : Byte)
  | ldxZp (b : Byte)
  | ldxZpy (b : Byte)
  | ldxAbs (w : Word)
  | ldxAbsy (w : Word)
  | ldyImm (b : Byte)
  | ldyZp (b : Byte)
  | ldyZpx (b : Byte)
  | ldyAbs (w : Word)
  | ldyAbsx (w : Word)
  | staZp (b : Byte)
  | staZpx (b : Byte)
  | staAbs (w : Word)
  | staAbsx (w : Word)
  | staAbsy (w : Word)
  | staIndx (b : Byte)
  | staIndy (b : Byte)
  | stxZp (b : Byte)
  | stxZpy (b : Byte)
  | stxAbs (w : Word)
  | styZp (b : Byte)
  | styZpx (b : Byte)
  | styAbs (w : Word)
  | tax
  | tay
  | txa
  | tya
  | tsx
  | txs
  | inx
  | iny
  | dex
  | dey
  | incZp (b : Byte)
  | incZpx (b : Byte)
  | incAbs (w : Word)
  | incAbsx (w : Word)
  | decZp (b : Byte)
  | decZpx (b : Byte)
  | decAbs (w : Word)
  | decAbsx (w : Word)
  | andImm (b : Byte)
  | andZp (b : Byte)
  | andZpx (b : Byte)
  | andAbs (w : Word)
  | andAbsx (w : Word)
  | andAbsy (w : Word)
  | andIndx (b : Byte)
  | andIndy (b : Byte)
  | oraImm (b : Byte)
  | oraZp (b : Byte)
  | oraZpx (b : Byte)
  | oraAbs (w : Word)
  | oraAbsx (w : Word)
  | oraAbsy (w : Word)
  | oraIndx (b : Byte)
  | oraIndy (b : Byte)
  | eorImm (b : Byte)
  | eorZp (b : Byte)
  | eorZpx (b : Byte)
  | eorAbs (w : Word)
  | eorAbsx (w : Word)
  | eorAbsy (w : Word)
  | eorIndx (b : Byte)
  | eorIndy (b : Byte)
  | aslAcc
  | aslZp (b : Byte)
  | aslZpx (b : Byte)
  | aslAbs (w : Word)
  | aslAbsx (w : Word)
  | lsrAcc
  | lsrZp (b : Byte)
  | lsrZpx (b : Byte)
  | lsrAbs (w : Word)
  | lsrAbsx (w : Word)
  | rolAcc
  | rolZp (b : Byte)
  | rolZpx (b : Byte)
  | rolAbs (w : Word)
  | rolAbsx (w : Word)
  | rorAcc
  | rorZp (b : Byte)
  | rorZpx (b : Byte)
  | rorAbs (w : Word)
  | rorAbsx (w : Word)
  | adcImm (b : Byte)
  | adcZp (b : Byte)
  | adcZpx (b : Byte)
  | adcAbs (w : Word)
  | adcAbsx (w : Word)
  | adcAbsy (w : Word)
  | adcIndx (b : Byte)
  | adcIndy (b : Byte)
  | sbcImm (b : Byte)
  | sbcZp (b : Byte)
  | sbcZpx (b : Byte)
  | sbcAbs (w : Word)
  | sbcAbsx (w : Word)
  | sbcAbsy (w : Word)
  | sbcIndx (b : Byte)
  | sbcIndy (b : Byte)
  | cmpImm (b : Byte)
  | cmpZp (b : Byte)
  | cmpZpx (b : Byte)
  | cmpAbs (w : Word)
  | cmpAbsx (w : Word)
  | cmpAbsy (w : Word)
  | cmpIndx (b : Byte)
  | cmpIndy (b : Byte)
  | cpxImm (b : Byte)
  | cpxZp (b : Byte)
  | cpxAbs (w : Word)
  | cpyImm (b : Byte)
  | cpyZp (b : Byte)
  | cpyAbs (w : Word)
  | bitZp (b : Byte)
  | bitAbs (w : Word)
  | bcc (b : Byte)
  | bcs (b : Byte)
  | beq (b : Byte)
  | bne (b : Byte)
  | bmi (b : Byte)
  | bpl (b : Byte)
  | bvc (b : Byte)
  | bvs (b : Byte)
  | jmpJabs (w : Word)
  | jmpInd (w : Word)
  | jsr (w : Word)
  | rts
  | pha
  | pla
  | php
  | plp
  | sec
  | clc
  | cli
  | cld
  | clv
  | nop
  | brk
  | sei
  | sed
deriving DecidableEq, Repr

end Sys2Proof
end

