-- ==== Sys2Proof/WellFormed.lean ====
section
/-! DEFINITION. Well-formed instructions. Every operand value is legal (spec/30_encoding.md R52), so the one check is that
SEI and SED exist only under P_SEI_SED (spec/49_flags_control.md R139). -/

namespace Sys2Proof

/-- The instruction exists on a core whose parameter P_SEI_SED has this value (R139). -/
def Instr.wf (pSeiSed : Bool) : Instr → Bool
  | .sei => pSeiSed
  | .sed => pSeiSed
  | _ => true

end Sys2Proof
end

