-- ==== Sys2Proof/Decode.lean ====
section
/-! DEFINITION. The decoder, total on any bytes, from the opcode map ordered by opcode (spec/30_encoding.md section 3), and
the encoder, from the same map ordered by mnemonic (section 3.2). -/

namespace Sys2Proof

/-- The three instruction formats (R50), each with the instruction its operand bytes make. -/
inductive Format where
  | i1 (i : Instr)
  | i2 (make : Byte → Instr)
  | i3 (make : Word → Instr)

/-- Why bytes do not decode. -/
inductive DecodeError where
  /-- The opcode byte has no table entry (R57). -/
  | unmapped (op : Byte)
  /-- The bytes end before the instruction does; a fetch always supplies enough. -/
  | truncated
deriving DecidableEq, Repr

/-- The mapped opcodes 0x00 to 0x0F, by low nibble (R56, section 3). -/
def decodeRow0 (lo : Nat) : Option Format :=
  match lo with
  | 0x0 => some (.i1 .brk)
  | 0x1 => some (.i2 .oraIndx)
  | 0x5 => some (.i2 .oraZp)
  | 0x6 => some (.i2 .aslZp)
  | 0x8 => some (.i1 .php)
  | 0x9 => some (.i2 .oraImm)
  | 0xA => some (.i1 .aslAcc)
  | 0xD => some (.i3 .oraAbs)
  | 0xE => some (.i3 .aslAbs)
  | _ => none

/-- The mapped opcodes 0x10 to 0x1F, by low nibble (R56, section 3). -/
def decodeRow1 (lo : Nat) : Option Format :=
  match lo with
  | 0x0 => some (.i2 .bpl)
  | 0x1 => some (.i2 .oraIndy)
  | 0x5 => some (.i2 .oraZpx)
  | 0x6 => some (.i2 .aslZpx)
  | 0x8 => some (.i1 .clc)
  | 0x9 => some (.i3 .oraAbsy)
  | 0xD => some (.i3 .oraAbsx)
  | 0xE => some (.i3 .aslAbsx)
  | _ => none

/-- The mapped opcodes 0x20 to 0x2F, by low nibble (R56, section 3). -/
def decodeRow2 (lo : Nat) : Option Format :=
  match lo with
  | 0x0 => some (.i3 .jsr)
  | 0x1 => some (.i2 .andIndx)
  | 0x4 => some (.i2 .bitZp)
  | 0x5 => some (.i2 .andZp)
  | 0x6 => some (.i2 .rolZp)
  | 0x8 => some (.i1 .plp)
  | 0x9 => some (.i2 .andImm)
  | 0xA => some (.i1 .rolAcc)
  | 0xC => some (.i3 .bitAbs)
  | 0xD => some (.i3 .andAbs)
  | 0xE => some (.i3 .rolAbs)
  | _ => none

/-- The mapped opcodes 0x30 to 0x3F, by low nibble (R56, section 3). -/
def decodeRow3 (lo : Nat) : Option Format :=
  match lo with
  | 0x0 => some (.i2 .bmi)
  | 0x1 => some (.i2 .andIndy)
  | 0x5 => some (.i2 .andZpx)
  | 0x6 => some (.i2 .rolZpx)
  | 0x8 => some (.i1 .sec)
  | 0x9 => some (.i3 .andAbsy)
  | 0xD => some (.i3 .andAbsx)
  | 0xE => some (.i3 .rolAbsx)
  | _ => none

/-- The mapped opcodes 0x40 to 0x4F, by low nibble (R56, section 3). -/
def decodeRow4 (lo : Nat) : Option Format :=
  match lo with
  | 0x1 => some (.i2 .eorIndx)
  | 0x5 => some (.i2 .eorZp)
  | 0x6 => some (.i2 .lsrZp)
  | 0x8 => some (.i1 .pha)
  | 0x9 => some (.i2 .eorImm)
  | 0xA => some (.i1 .lsrAcc)
  | 0xC => some (.i3 .jmpJabs)
  | 0xD => some (.i3 .eorAbs)
  | 0xE => some (.i3 .lsrAbs)
  | _ => none

/-- The mapped opcodes 0x50 to 0x5F, by low nibble (R56, section 3). -/
def decodeRow5 (lo : Nat) : Option Format :=
  match lo with
  | 0x0 => some (.i2 .bvc)
  | 0x1 => some (.i2 .eorIndy)
  | 0x5 => some (.i2 .eorZpx)
  | 0x6 => some (.i2 .lsrZpx)
  | 0x8 => some (.i1 .cli)
  | 0x9 => some (.i3 .eorAbsy)
  | 0xD => some (.i3 .eorAbsx)
  | 0xE => some (.i3 .lsrAbsx)
  | _ => none

/-- The mapped opcodes 0x60 to 0x6F, by low nibble (R56, section 3). -/
def decodeRow6 (lo : Nat) : Option Format :=
  match lo with
  | 0x0 => some (.i1 .rts)
  | 0x1 => some (.i2 .adcIndx)
  | 0x5 => some (.i2 .adcZp)
  | 0x6 => some (.i2 .rorZp)
  | 0x8 => some (.i1 .pla)
  | 0x9 => some (.i2 .adcImm)
  | 0xA => some (.i1 .rorAcc)
  | 0xC => some (.i3 .jmpInd)
  | 0xD => some (.i3 .adcAbs)
  | 0xE => some (.i3 .rorAbs)
  | _ => none

/-- The mapped opcodes 0x70 to 0x7F, by low nibble (R56, section 3). -/
def decodeRow7 (pSeiSed : Bool) (lo : Nat) : Option Format :=
  match lo with
  | 0x0 => some (.i2 .bvs)
  | 0x1 => some (.i2 .adcIndy)
  | 0x5 => some (.i2 .adcZpx)
  | 0x6 => some (.i2 .rorZpx)
  | 0x8 => if pSeiSed then some (.i1 .sei) else none
  | 0x9 => some (.i3 .adcAbsy)
  | 0xD => some (.i3 .adcAbsx)
  | 0xE => some (.i3 .rorAbsx)
  | _ => none

/-- The mapped opcodes 0x80 to 0x8F, by low nibble (R56, section 3). -/
def decodeRow8 (lo : Nat) : Option Format :=
  match lo with
  | 0x1 => some (.i2 .staIndx)
  | 0x4 => some (.i2 .styZp)
  | 0x5 => some (.i2 .staZp)
  | 0x6 => some (.i2 .stxZp)
  | 0x8 => some (.i1 .dey)
  | 0xA => some (.i1 .txa)
  | 0xC => some (.i3 .styAbs)
  | 0xD => some (.i3 .staAbs)
  | 0xE => some (.i3 .stxAbs)
  | _ => none

/-- The mapped opcodes 0x90 to 0x9F, by low nibble (R56, section 3). -/
def decodeRow9 (lo : Nat) : Option Format :=
  match lo with
  | 0x0 => some (.i2 .bcc)
  | 0x1 => some (.i2 .staIndy)
  | 0x4 => some (.i2 .styZpx)
  | 0x5 => some (.i2 .staZpx)
  | 0x6 => some (.i2 .stxZpy)
  | 0x8 => some (.i1 .tya)
  | 0x9 => some (.i3 .staAbsy)
  | 0xA => some (.i1 .txs)
  | 0xD => some (.i3 .staAbsx)
  | _ => none

/-- The mapped opcodes 0xA0 to 0xAF, by low nibble (R56, section 3). -/
def decodeRowA (lo : Nat) : Option Format :=
  match lo with
  | 0x0 => some (.i2 .ldyImm)
  | 0x1 => some (.i2 .ldaIndx)
  | 0x2 => some (.i2 .ldxImm)
  | 0x4 => some (.i2 .ldyZp)
  | 0x5 => some (.i2 .ldaZp)
  | 0x6 => some (.i2 .ldxZp)
  | 0x8 => some (.i1 .tay)
  | 0x9 => some (.i2 .ldaImm)
  | 0xA => some (.i1 .tax)
  | 0xC => some (.i3 .ldyAbs)
  | 0xD => some (.i3 .ldaAbs)
  | 0xE => some (.i3 .ldxAbs)
  | _ => none

/-- The mapped opcodes 0xB0 to 0xBF, by low nibble (R56, section 3). -/
def decodeRowB (lo : Nat) : Option Format :=
  match lo with
  | 0x0 => some (.i2 .bcs)
  | 0x1 => some (.i2 .ldaIndy)
  | 0x4 => some (.i2 .ldyZpx)
  | 0x5 => some (.i2 .ldaZpx)
  | 0x6 => some (.i2 .ldxZpy)
  | 0x8 => some (.i1 .clv)
  | 0x9 => some (.i3 .ldaAbsy)
  | 0xA => some (.i1 .tsx)
  | 0xC => some (.i3 .ldyAbsx)
  | 0xD => some (.i3 .ldaAbsx)
  | 0xE => some (.i3 .ldxAbsy)
  | _ => none

/-- The mapped opcodes 0xC0 to 0xCF, by low nibble (R56, section 3). -/
def decodeRowC (lo : Nat) : Option Format :=
  match lo with
  | 0x0 => some (.i2 .cpyImm)
  | 0x1 => some (.i2 .cmpIndx)
  | 0x4 => some (.i2 .cpyZp)
  | 0x5 => some (.i2 .cmpZp)
  | 0x6 => some (.i2 .decZp)
  | 0x8 => some (.i1 .iny)
  | 0x9 => some (.i2 .cmpImm)
  | 0xA => some (.i1 .dex)
  | 0xC => some (.i3 .cpyAbs)
  | 0xD => some (.i3 .cmpAbs)
  | 0xE => some (.i3 .decAbs)
  | _ => none

/-- The mapped opcodes 0xD0 to 0xDF, by low nibble (R56, section 3). -/
def decodeRowD (lo : Nat) : Option Format :=
  match lo with
  | 0x0 => some (.i2 .bne)
  | 0x1 => some (.i2 .cmpIndy)
  | 0x5 => some (.i2 .cmpZpx)
  | 0x6 => some (.i2 .decZpx)
  | 0x8 => some (.i1 .cld)
  | 0x9 => some (.i3 .cmpAbsy)
  | 0xD => some (.i3 .cmpAbsx)
  | 0xE => some (.i3 .decAbsx)
  | _ => none

/-- The mapped opcodes 0xE0 to 0xEF, by low nibble (R56, section 3). -/
def decodeRowE (lo : Nat) : Option Format :=
  match lo with
  | 0x0 => some (.i2 .cpxImm)
  | 0x1 => some (.i2 .sbcIndx)
  | 0x4 => some (.i2 .cpxZp)
  | 0x5 => some (.i2 .sbcZp)
  | 0x6 => some (.i2 .incZp)
  | 0x8 => some (.i1 .inx)
  | 0x9 => some (.i2 .sbcImm)
  | 0xA => some (.i1 .nop)
  | 0xC => some (.i3 .cpxAbs)
  | 0xD => some (.i3 .sbcAbs)
  | 0xE => some (.i3 .incAbs)
  | _ => none

/-- The mapped opcodes 0xF0 to 0xFF, by low nibble (R56, section 3). -/
def decodeRowF (pSeiSed : Bool) (lo : Nat) : Option Format :=
  match lo with
  | 0x0 => some (.i2 .beq)
  | 0x1 => some (.i2 .sbcIndy)
  | 0x5 => some (.i2 .sbcZpx)
  | 0x6 => some (.i2 .incZpx)
  | 0x8 => if pSeiSed then some (.i1 .sed) else none
  | 0x9 => some (.i3 .sbcAbsy)
  | 0xD => some (.i3 .sbcAbsx)
  | 0xE => some (.i3 .incAbsx)
  | _ => none

/-- The opcode map (R56): 148 entries, and 0x78 and 0xF8 when P_SEI_SED is true (R139). -/
def decodeOpcode (pSeiSed : Bool) (op : Byte) : Option Format :=
  match op.toNat / 16 with
  | 0x0 => decodeRow0 (op.toNat % 16)
  | 0x1 => decodeRow1 (op.toNat % 16)
  | 0x2 => decodeRow2 (op.toNat % 16)
  | 0x3 => decodeRow3 (op.toNat % 16)
  | 0x4 => decodeRow4 (op.toNat % 16)
  | 0x5 => decodeRow5 (op.toNat % 16)
  | 0x6 => decodeRow6 (op.toNat % 16)
  | 0x7 => decodeRow7 pSeiSed (op.toNat % 16)
  | 0x8 => decodeRow8 (op.toNat % 16)
  | 0x9 => decodeRow9 (op.toNat % 16)
  | 0xA => decodeRowA (op.toNat % 16)
  | 0xB => decodeRowB (op.toNat % 16)
  | 0xC => decodeRowC (op.toNat % 16)
  | 0xD => decodeRowD (op.toNat % 16)
  | 0xE => decodeRowE (op.toNat % 16)
  | 0xF => decodeRowF pSeiSed (op.toNat % 16)
  | _ => none

/-- The decoder: the opcode byte alone decides the instruction, its length and form (R51, R59); operand words are
little-endian (R50). It answers the instruction and the bytes after it. -/
def decode (pSeiSed : Bool) : List Byte → Except DecodeError (Instr × List Byte)
  | [] => .error .truncated
  | op :: rest =>
    match decodeOpcode pSeiSed op, rest with
    | none, _ => .error (.unmapped op)
    | some (.i1 i), rest => .ok (i, rest)
    | some (.i2 make), b1 :: rest => .ok (make b1, rest)
    | some (.i3 make), b1 :: b2 :: rest => .ok (make (word b2 b1), rest)
    | _, _ => .error .truncated

/-- The three bytes of a table word: its `nbits` low bits, the first byte lowest, every bit above them 0. -/
def tableBytes (nbits w : Nat) : List Byte :=
  [BitVec.ofNat 8 (w % 2 ^ nbits), BitVec.ofNat 8 (w % 2 ^ nbits / 256), BitVec.ofNat 8 (w % 2 ^ nbits / 65536)]

/-- The instruction the decoder reads from a table word, with SEI and SED mapped (log entry 6). -/
def decodeTableWord (nbits w : Nat) : Option Instr :=
  match decode true (tableBytes nbits w) with
  | .ok (i, _) => some i
  | .error _ => none

/-! ### The parts of an instruction, and the encoder -/

/-- The mnemonic of an instruction. -/
def Instr.mnemonic : Instr → Mnemonic
  | .ldaImm _ | .ldaZp _ | .ldaZpx _ | .ldaAbs _ | .ldaAbsx _ | .ldaAbsy _ | .ldaIndx _ | .ldaIndy _ => .lda
  | .ldxImm _ | .ldxZp _ | .ldxZpy _ | .ldxAbs _ | .ldxAbsy _ => .ldx
  | .ldyImm _ | .ldyZp _ | .ldyZpx _ | .ldyAbs _ | .ldyAbsx _ => .ldy
  | .staZp _ | .staZpx _ | .staAbs _ | .staAbsx _ | .staAbsy _ | .staIndx _ | .staIndy _ => .sta
  | .stxZp _ | .stxZpy _ | .stxAbs _ => .stx
  | .styZp _ | .styZpx _ | .styAbs _ => .sty
  | .tax => .tax
  | .tay => .tay
  | .txa => .txa
  | .tya => .tya
  | .tsx => .tsx
  | .txs => .txs
  | .inx => .inx
  | .iny => .iny
  | .dex => .dex
  | .dey => .dey
  | .incZp _ | .incZpx _ | .incAbs _ | .incAbsx _ => .inc
  | .decZp _ | .decZpx _ | .decAbs _ | .decAbsx _ => .dec
  | .andImm _ | .andZp _ | .andZpx _ | .andAbs _ | .andAbsx _ | .andAbsy _ | .andIndx _ | .andIndy _ => .and
  | .oraImm _ | .oraZp _ | .oraZpx _ | .oraAbs _ | .oraAbsx _ | .oraAbsy _ | .oraIndx _ | .oraIndy _ => .ora
  | .eorImm _ | .eorZp _ | .eorZpx _ | .eorAbs _ | .eorAbsx _ | .eorAbsy _ | .eorIndx _ | .eorIndy _ => .eor
  | .aslAcc | .aslZp _ | .aslZpx _ | .aslAbs _ | .aslAbsx _ => .asl
  | .lsrAcc | .lsrZp _ | .lsrZpx _ | .lsrAbs _ | .lsrAbsx _ => .lsr
  | .rolAcc | .rolZp _ | .rolZpx _ | .rolAbs _ | .rolAbsx _ => .rol
  | .rorAcc | .rorZp _ | .rorZpx _ | .rorAbs _ | .rorAbsx _ => .ror
  | .adcImm _ | .adcZp _ | .adcZpx _ | .adcAbs _ | .adcAbsx _ | .adcAbsy _ | .adcIndx _ | .adcIndy _ => .adc
  | .sbcImm _ | .sbcZp _ | .sbcZpx _ | .sbcAbs _ | .sbcAbsx _ | .sbcAbsy _ | .sbcIndx _ | .sbcIndy _ => .sbc
  | .cmpImm _ | .cmpZp _ | .cmpZpx _ | .cmpAbs _ | .cmpAbsx _ | .cmpAbsy _ | .cmpIndx _ | .cmpIndy _ => .cmp
  | .cpxImm _ | .cpxZp _ | .cpxAbs _ => .cpx
  | .cpyImm _ | .cpyZp _ | .cpyAbs _ => .cpy
  | .bitZp _ | .bitAbs _ => .bit
  | .bcc _ => .bcc
  | .bcs _ => .bcs
  | .beq _ => .beq
  | .bne _ => .bne
  | .bmi _ => .bmi
  | .bpl _ => .bpl
  | .bvc _ => .bvc
  | .bvs _ => .bvs
  | .jmpJabs _ | .jmpInd _ => .jmp
  | .jsr _ => .jsr
  | .rts => .rts
  | .pha => .pha
  | .pla => .pla
  | .php => .php
  | .plp => .plp
  | .sec => .sec
  | .clc => .clc
  | .cli => .cli
  | .cld => .cld
  | .clv => .clv
  | .nop => .nop
  | .brk => .brk
  | .sei => .sei
  | .sed => .sed

/-- The decoded operand of an instruction (R52). -/
def Instr.operand : Instr → Operand
  | .ldaImm b => .mem (.imm b)
  | .ldaZp b => .mem (.zp b)
  | .ldaZpx b => .mem (.zpx b)
  | .ldaAbs w => .mem (.abs w)
  | .ldaAbsx w => .mem (.absx w)
  | .ldaAbsy w => .mem (.absy w)
  | .ldaIndx b => .mem (.indx b)
  | .ldaIndy b => .mem (.indy b)
  | .ldxImm b => .mem (.imm b)
  | .ldxZp b => .mem (.zp b)
  | .ldxZpy b => .mem (.zpy b)
  | .ldxAbs w => .mem (.abs w)
  | .ldxAbsy w => .mem (.absy w)
  | .ldyImm b => .mem (.imm b)
  | .ldyZp b => .mem (.zp b)
  | .ldyZpx b => .mem (.zpx b)
  | .ldyAbs w => .mem (.abs w)
  | .ldyAbsx w => .mem (.absx w)
  | .staZp b => .mem (.zp b)
  | .staZpx b => .mem (.zpx b)
  | .staAbs w => .mem (.abs w)
  | .staAbsx w => .mem (.absx w)
  | .staAbsy w => .mem (.absy w)
  | .staIndx b => .mem (.indx b)
  | .staIndy b => .mem (.indy b)
  | .stxZp b => .mem (.zp b)
  | .stxZpy b => .mem (.zpy b)
  | .stxAbs w => .mem (.abs w)
  | .styZp b => .mem (.zp b)
  | .styZpx b => .mem (.zpx b)
  | .styAbs w => .mem (.abs w)
  | .tax => .imp
  | .tay => .imp
  | .txa => .imp
  | .tya => .imp
  | .tsx => .imp
  | .txs => .imp
  | .inx => .imp
  | .iny => .imp
  | .dex => .imp
  | .dey => .imp
  | .incZp b => .mem (.zp b)
  | .incZpx b => .mem (.zpx b)
  | .incAbs w => .mem (.abs w)
  | .incAbsx w => .mem (.absx w)
  | .decZp b => .mem (.zp b)
  | .decZpx b => .mem (.zpx b)
  | .decAbs w => .mem (.abs w)
  | .decAbsx w => .mem (.absx w)
  | .andImm b => .mem (.imm b)
  | .andZp b => .mem (.zp b)
  | .andZpx b => .mem (.zpx b)
  | .andAbs w => .mem (.abs w)
  | .andAbsx w => .mem (.absx w)
  | .andAbsy w => .mem (.absy w)
  | .andIndx b => .mem (.indx b)
  | .andIndy b => .mem (.indy b)
  | .oraImm b => .mem (.imm b)
  | .oraZp b => .mem (.zp b)
  | .oraZpx b => .mem (.zpx b)
  | .oraAbs w => .mem (.abs w)
  | .oraAbsx w => .mem (.absx w)
  | .oraAbsy w => .mem (.absy w)
  | .oraIndx b => .mem (.indx b)
  | .oraIndy b => .mem (.indy b)
  | .eorImm b => .mem (.imm b)
  | .eorZp b => .mem (.zp b)
  | .eorZpx b => .mem (.zpx b)
  | .eorAbs w => .mem (.abs w)
  | .eorAbsx w => .mem (.absx w)
  | .eorAbsy w => .mem (.absy w)
  | .eorIndx b => .mem (.indx b)
  | .eorIndy b => .mem (.indy b)
  | .aslAcc => .acc
  | .aslZp b => .mem (.zp b)
  | .aslZpx b => .mem (.zpx b)
  | .aslAbs w => .mem (.abs w)
  | .aslAbsx w => .mem (.absx w)
  | .lsrAcc => .acc
  | .lsrZp b => .mem (.zp b)
  | .lsrZpx b => .mem (.zpx b)
  | .lsrAbs w => .mem (.abs w)
  | .lsrAbsx w => .mem (.absx w)
  | .rolAcc => .acc
  | .rolZp b => .mem (.zp b)
  | .rolZpx b => .mem (.zpx b)
  | .rolAbs w => .mem (.abs w)
  | .rolAbsx w => .mem (.absx w)
  | .rorAcc => .acc
  | .rorZp b => .mem (.zp b)
  | .rorZpx b => .mem (.zpx b)
  | .rorAbs w => .mem (.abs w)
  | .rorAbsx w => .mem (.absx w)
  | .adcImm b => .mem (.imm b)
  | .adcZp b => .mem (.zp b)
  | .adcZpx b => .mem (.zpx b)
  | .adcAbs w => .mem (.abs w)
  | .adcAbsx w => .mem (.absx w)
  | .adcAbsy w => .mem (.absy w)
  | .adcIndx b => .mem (.indx b)
  | .adcIndy b => .mem (.indy b)
  | .sbcImm b => .mem (.imm b)
  | .sbcZp b => .mem (.zp b)
  | .sbcZpx b => .mem (.zpx b)
  | .sbcAbs w => .mem (.abs w)
  | .sbcAbsx w => .mem (.absx w)
  | .sbcAbsy w => .mem (.absy w)
  | .sbcIndx b => .mem (.indx b)
  | .sbcIndy b => .mem (.indy b)
  | .cmpImm b => .mem (.imm b)
  | .cmpZp b => .mem (.zp b)
  | .cmpZpx b => .mem (.zpx b)
  | .cmpAbs w => .mem (.abs w)
  | .cmpAbsx w => .mem (.absx w)
  | .cmpAbsy w => .mem (.absy w)
  | .cmpIndx b => .mem (.indx b)
  | .cmpIndy b => .mem (.indy b)
  | .cpxImm b => .mem (.imm b)
  | .cpxZp b => .mem (.zp b)
  | .cpxAbs w => .mem (.abs w)
  | .cpyImm b => .mem (.imm b)
  | .cpyZp b => .mem (.zp b)
  | .cpyAbs w => .mem (.abs w)
  | .bitZp b => .mem (.zp b)
  | .bitAbs w => .mem (.abs w)
  | .bcc b => .rel b
  | .bcs b => .rel b
  | .beq b => .rel b
  | .bne b => .rel b
  | .bmi b => .rel b
  | .bpl b => .rel b
  | .bvc b => .rel b
  | .bvs b => .rel b
  | .jmpJabs w => .jabs w
  | .jmpInd w => .ind w
  | .jsr w => .jabs w
  | .rts => .imp
  | .pha => .imp
  | .pla => .imp
  | .php => .imp
  | .plp => .imp
  | .sec => .imp
  | .clc => .imp
  | .cli => .imp
  | .cld => .imp
  | .clv => .imp
  | .nop => .imp
  | .brk => .imp
  | .sei => .imp
  | .sed => .imp

/-- The opcode byte of an instruction (R56, section 3.2). -/
def Instr.opcode : Instr → Byte
  | .ldaImm _ => 0xA9
  | .ldaZp _ => 0xA5
  | .ldaZpx _ => 0xB5
  | .ldaAbs _ => 0xAD
  | .ldaAbsx _ => 0xBD
  | .ldaAbsy _ => 0xB9
  | .ldaIndx _ => 0xA1
  | .ldaIndy _ => 0xB1
  | .ldxImm _ => 0xA2
  | .ldxZp _ => 0xA6
  | .ldxZpy _ => 0xB6
  | .ldxAbs _ => 0xAE
  | .ldxAbsy _ => 0xBE
  | .ldyImm _ => 0xA0
  | .ldyZp _ => 0xA4
  | .ldyZpx _ => 0xB4
  | .ldyAbs _ => 0xAC
  | .ldyAbsx _ => 0xBC
  | .staZp _ => 0x85
  | .staZpx _ => 0x95
  | .staAbs _ => 0x8D
  | .staAbsx _ => 0x9D
  | .staAbsy _ => 0x99
  | .staIndx _ => 0x81
  | .staIndy _ => 0x91
  | .stxZp _ => 0x86
  | .stxZpy _ => 0x96
  | .stxAbs _ => 0x8E
  | .styZp _ => 0x84
  | .styZpx _ => 0x94
  | .styAbs _ => 0x8C
  | .tax => 0xAA
  | .tay => 0xA8
  | .txa => 0x8A
  | .tya => 0x98
  | .tsx => 0xBA
  | .txs => 0x9A
  | .inx => 0xE8
  | .iny => 0xC8
  | .dex => 0xCA
  | .dey => 0x88
  | .incZp _ => 0xE6
  | .incZpx _ => 0xF6
  | .incAbs _ => 0xEE
  | .incAbsx _ => 0xFE
  | .decZp _ => 0xC6
  | .decZpx _ => 0xD6
  | .decAbs _ => 0xCE
  | .decAbsx _ => 0xDE
  | .andImm _ => 0x29
  | .andZp _ => 0x25
  | .andZpx _ => 0x35
  | .andAbs _ => 0x2D
  | .andAbsx _ => 0x3D
  | .andAbsy _ => 0x39
  | .andIndx _ => 0x21
  | .andIndy _ => 0x31
  | .oraImm _ => 0x09
  | .oraZp _ => 0x05
  | .oraZpx _ => 0x15
  | .oraAbs _ => 0x0D
  | .oraAbsx _ => 0x1D
  | .oraAbsy _ => 0x19
  | .oraIndx _ => 0x01
  | .oraIndy _ => 0x11
  | .eorImm _ => 0x49
  | .eorZp _ => 0x45
  | .eorZpx _ => 0x55
  | .eorAbs _ => 0x4D
  | .eorAbsx _ => 0x5D
  | .eorAbsy _ => 0x59
  | .eorIndx _ => 0x41
  | .eorIndy _ => 0x51
  | .aslAcc => 0x0A
  | .aslZp _ => 0x06
  | .aslZpx _ => 0x16
  | .aslAbs _ => 0x0E
  | .aslAbsx _ => 0x1E
  | .lsrAcc => 0x4A
  | .lsrZp _ => 0x46
  | .lsrZpx _ => 0x56
  | .lsrAbs _ => 0x4E
  | .lsrAbsx _ => 0x5E
  | .rolAcc => 0x2A
  | .rolZp _ => 0x26
  | .rolZpx _ => 0x36
  | .rolAbs _ => 0x2E
  | .rolAbsx _ => 0x3E
  | .rorAcc => 0x6A
  | .rorZp _ => 0x66
  | .rorZpx _ => 0x76
  | .rorAbs _ => 0x6E
  | .rorAbsx _ => 0x7E
  | .adcImm _ => 0x69
  | .adcZp _ => 0x65
  | .adcZpx _ => 0x75
  | .adcAbs _ => 0x6D
  | .adcAbsx _ => 0x7D
  | .adcAbsy _ => 0x79
  | .adcIndx _ => 0x61
  | .adcIndy _ => 0x71
  | .sbcImm _ => 0xE9
  | .sbcZp _ => 0xE5
  | .sbcZpx _ => 0xF5
  | .sbcAbs _ => 0xED
  | .sbcAbsx _ => 0xFD
  | .sbcAbsy _ => 0xF9
  | .sbcIndx _ => 0xE1
  | .sbcIndy _ => 0xF1
  | .cmpImm _ => 0xC9
  | .cmpZp _ => 0xC5
  | .cmpZpx _ => 0xD5
  | .cmpAbs _ => 0xCD
  | .cmpAbsx _ => 0xDD
  | .cmpAbsy _ => 0xD9
  | .cmpIndx _ => 0xC1
  | .cmpIndy _ => 0xD1
  | .cpxImm _ => 0xE0
  | .cpxZp _ => 0xE4
  | .cpxAbs _ => 0xEC
  | .cpyImm _ => 0xC0
  | .cpyZp _ => 0xC4
  | .cpyAbs _ => 0xCC
  | .bitZp _ => 0x24
  | .bitAbs _ => 0x2C
  | .bcc _ => 0x90
  | .bcs _ => 0xB0
  | .beq _ => 0xF0
  | .bne _ => 0xD0
  | .bmi _ => 0x30
  | .bpl _ => 0x10
  | .bvc _ => 0x50
  | .bvs _ => 0x70
  | .jmpJabs _ => 0x4C
  | .jmpInd _ => 0x6C
  | .jsr _ => 0x20
  | .rts => 0x60
  | .pha => 0x48
  | .pla => 0x68
  | .php => 0x08
  | .plp => 0x28
  | .sec => 0x38
  | .clc => 0x18
  | .cli => 0x58
  | .cld => 0xD8
  | .clv => 0xB8
  | .nop => 0xEA
  | .brk => 0x00
  | .sei => 0x78
  | .sed => 0xF8

/-- The form of a memory operand (R52). -/
def MemOperand.form : MemOperand → Form
  | .imm _ => .imm
  | .zp _ => .zp
  | .zpx _ => .zpx
  | .zpy _ => .zpy
  | .abs _ => .abs
  | .absx _ => .absx
  | .absy _ => .absy
  | .indx _ => .indx
  | .indy _ => .indy

/-- The form of an operand (R52). -/
def Operand.form : Operand → Form
  | .imp => .imp
  | .acc => .acc
  | .mem o => o.form
  | .rel _ => .rel
  | .jabs _ => .jabs
  | .ind _ => .ind

/-- The mode tag of a form (R53, R54). -/
def Form.modeTag : Form → ModeTag
  | .imm => .immediate
  | .zp => .zeroPage
  | .zpx => .zeroPageX
  | .zpy => .zeroPageY
  | .abs => .absolute
  | .absx => .absoluteX
  | .absy => .absoluteY
  | .indx => .indirectX
  | .indy => .indirectY
  | .imp => .none
  | .acc => .none
  | .rel => .none
  | .jabs => .none
  | .ind => .none

/-- The operand width of a form: how many bytes follow the opcode (R53). -/
def Form.width : Form → Nat
  | .imp => 0
  | .acc => 0
  | .imm => 1
  | .zp => 1
  | .zpx => 1
  | .zpy => 1
  | .indx => 1
  | .indy => 1
  | .rel => 1
  | .abs => 2
  | .absx => 2
  | .absy => 2
  | .jabs => 2
  | .ind => 2

/-- The operand bytes of a memory operand in memory order, low byte first (R50). -/
def MemOperand.bytes : MemOperand → List Byte
  | .imm b => [b]
  | .zp b => [b]
  | .zpx b => [b]
  | .zpy b => [b]
  | .abs w => [lo8 w, hi8 w]
  | .absx w => [lo8 w, hi8 w]
  | .absy w => [lo8 w, hi8 w]
  | .indx b => [b]
  | .indy b => [b]

/-- The operand bytes of an operand in memory order, low byte first (R50). -/
def Operand.bytes : Operand → List Byte
  | .imp => []
  | .acc => []
  | .mem o => o.bytes
  | .rel b => [b]
  | .jabs w => [lo8 w, hi8 w]
  | .ind w => [lo8 w, hi8 w]

/-- The operand width of an instruction; its length is one more (R50). -/
def Instr.width (i : Instr) : Nat := i.operand.form.width

/-- The bytes of an instruction in memory order: the opcode byte, then the operand bytes (R50). -/
def encode (i : Instr) : List Byte := i.opcode :: i.operand.bytes

end Sys2Proof
end

