-- ==== Sys2Proof/Config.lean ====
section
/-! DEFINITION. The implementation parameters of spec/00_scope.md R6 and the values the spec leaves open. -/

namespace Sys2Proof.Config

/-- Base of the stack page (R6, R40). -/
def stackPage : Word := 0x0100

/-- Address of the low byte of the reset vector; the high byte is at 0xFFFD (R6, R44). -/
def resetVector : Word := 0xFFFC

/-- Base at which `load` places a program image (R6, R160). -/
def loadBase : Word := 0x8000

/-- SP after `reset()` (R6, R30). -/
def stackReset : Byte := 0xFD

/-- The default of the parameter P_SEI_SED (R6, R139). -/
def seiSedDefault : Bool := false

/-! The registers between construction and the first `reset()` are unspecified (R156; 93 U3: a model must not read
them). They are free values, with no body: log entry 4. -/

/-- A before the first reset: unspecified (R156), log entry 4. -/
opaque constructA : Byte
/-- X before the first reset: unspecified (R156), log entry 4. -/
opaque constructX : Byte
/-- Y before the first reset: unspecified (R156), log entry 4. -/
opaque constructY : Byte
/-- SP before the first reset: unspecified (R156), log entry 4. -/
opaque constructSP : Byte
/-- Status before the first reset: unspecified (R156), log entry 4. -/
opaque constructStatus : Byte
/-- PC before the first reset: unspecified (R156), log entry 4. -/
opaque constructPC : Word

end Sys2Proof.Config
end

