-- ==== Sys2Proof/Machine/State.lean ====
section
/-! DEFINITION. The state of the core (spec/10_state.md) and the reasons a step can stop. -/

namespace Sys2Proof.Machine

/-- The two error kinds (R140) with their information (R27, R143, R144). -/
inductive FaultRecord where
  /-- A fetched byte `op` with no table entry, and the address `p` it was fetched from (R143). -/
  | unimplementedOpcode (op : Byte) (p : Word)
  /-- The resolver was invoked with the mode NONE (R78, R144). -/
  | unsupportedAddressingMode
deriving DecidableEq, Repr

/-- The run state (R26). The fault record is there while Faulted and empty otherwise (R27), which the type says. -/
inductive RunState where
  | running
  | halted
  | faulted (record : FaultRecord)
deriving DecidableEq, Repr

/-- The 65536-byte array (R29) as the list of the cells that differ from the unlisted value, addresses rising. -/
abbrev Memory := List Host.Cell

/-- What a byte no cell lists reads as: memory is zero-filled on construction (R30, R156). -/
def Memory.unlisted : Byte := 0x00

/-- Everything the spec gives the core: R15 (registers), R20 (Status), R26, R27 (run state and fault record),
R29 (memory), R139 (the parameter P_SEI_SED). R31: there is nothing else. -/
structure State where
  /-- Accumulator (R16). -/
  a : Byte
  /-- Index register X (R17). -/
  x : Byte
  /-- Index register Y (R18). -/
  y : Byte
  /-- Stack pointer (R19). -/
  sp : Byte
  /-- Program counter (R28). -/
  pc : Word
  /-- The packed status byte: bits 0 to 7 are C Z I D B B2 V N (R20). -/
  status : Byte
  /-- Run state with the fault record (R26, R27). -/
  run : RunState
  /-- The memory array (R29). -/
  mem : Memory
  /-- P_SEI_SED, fixed at construction (R139); no step writes it (log entry 1). -/
  pSeiSed : Bool
deriving DecidableEq, Repr

/-- The machine right after `reset()` on a core constructed with the default parameter and never loaded: the values of
R30 and R157, with PC read from the vector in zero-filled memory (R164). -/
def State.reset : State where
  a := 0x00
  x := 0x00
  y := 0x00
  sp := Config.stackReset
  pc := 0x0000
  status := 0x00
  run := .running
  mem := []
  pSeiSed := Config.seiSedDefault

/-- Why a step cannot be taken. The core's own errors are no outcome of this kind: they are the Faulted run state. -/
inductive Fault where
  /-- Raised by `step` on a Halted core: it takes no step until `reset()` (R26, R63, R67). Safe (log entry 2). -/
  | coreHalted
  /-- Raised by `step` on a Faulted core: it takes no further step until `reset()` (R142, R67). Safe (log entry 2). -/
  | coreFaulted (record : FaultRecord)
deriving DecidableEq, Repr

/-- Why an instruction has no meaning. -/
inductive Refusal where
  /-- Raised by an arm of `exec` whose instruction has no meaning yet; no arm is left in that state. Safe. -/
  | notModelled (mnemonic : String)
deriving DecidableEq, Repr

end Sys2Proof.Machine
end

