-- ==== Sys2Proof/Machine/Ops.lean ====
section
/-! DEFINITION. The named operations over memory and registers: accessors (spec/20_memory.md R34 to R37), the stack
(R41 to R43), PC, raising a fault (spec/60_exceptions.md R142), halting and `reset()` (spec/70 R157). -/

namespace Sys2Proof.Machine

/-! ### The memory array -/

/-- The byte at an address of the array. -/
def Memory.get : Memory → Nat → Byte
  | [], _ => Memory.unlisted
  | (k, v) :: rest, a => if a = k then v else Memory.get rest a

/-- Drop every cell of an address, so that it reads as unlisted. -/
def Memory.erase (m : Memory) (a : Nat) : Memory := m.filter fun c => c.1 != a

/-- Put one cell at its place in the rising order of addresses. -/
def Memory.insert : Memory → Nat → Byte → Memory
  | [], a, v => [(a, v)]
  | (k, w) :: rest, a, v =>
    if a < k then (a, v) :: (k, w) :: rest
    else if a = k then (a, v) :: rest
    else (k, w) :: Memory.insert rest a v

/-- Store a byte, keeping the canonical form: the unlisted value is stored by listing nothing. -/
def Memory.set (m : Memory) (a : Nat) (v : Byte) : Memory :=
  if v = Memory.unlisted then Memory.erase m a else Memory.insert m a v

/-- The canonical form: addresses strictly rising and below 65536, no entry equal to the unlisted value. -/
abbrev Memory.wf (m : Memory) : Prop :=
  m.Pairwise (fun c d => c.1 < d.1) ∧ ∀ c ∈ m, c.1 < 65536 ∧ c.2 ≠ Memory.unlisted

namespace State

/-! ### Register writes (R10) -/

/-- `A <- v` (R10, R16). -/
def setA (s : State) (v : Byte) : State := { s with a := v }

/-- `X <- v` (R10, R17). -/
def setX (s : State) (v : Byte) : State := { s with x := v }

/-- `Y <- v` (R10, R18). -/
def setY (s : State) (v : Byte) : State := { s with y := v }

/-- `SP <- v` (R10, R19). -/
def setSP (s : State) (v : Byte) : State := { s with sp := v }

/-- `Status <- v`, all eight bits (R10, R20). -/
def setStatus (s : State) (v : Byte) : State := { s with status := v }

/-- `PC <- target` (R10, R28). -/
def setPC (s : State) (target : Word) : State := { s with pc := target }

/-! ### Byte and word accessors. An address is a `Word`, so it is masked to 16 bits by its type. -/

/-- `readByte(addr)` (R34). -/
def readByte (s : State) (addr : Word) : Byte := Memory.get s.mem addr.toNat

/-- `writeByte(addr, value)` (R35): that one byte and nothing else. -/
def writeByte (s : State) (addr : Word) (v : Byte) : State := { s with mem := Memory.set s.mem addr.toNat v }

/-- `readWord(addr)` (R36): little-endian, `addr + 1` modulo 65536. -/
def readWord (s : State) (addr : Word) : Word := word (s.readByte (addr + 1)) (s.readByte addr)

/-- `writeWord(addr, value)` (R37): low byte at `addr`, then high byte at `addr + 1`. -/
def writeWord (s : State) (addr w : Word) : State := (s.writeByte addr (lo8 w)).writeByte (addr + 1) (hi8 w)

/-- A little-endian pointer whose high byte is read at the start of the same 256-byte page when the low byte is the
page's last: zero-page pointers (R76, R77) and the JMP indirect pointer (R123). -/
def readWordInPage (s : State) (addr : Word) : Word :=
  word (s.readByte (word (hi8 addr) (lo8 addr + 1))) (s.readByte addr)

/-! ### The stack -/

/-- The stack slot that a value of SP addresses, `0x0100 + SP` (R40). -/
def stackSlot (sp : Byte) : Word := Config.stackPage + zext16 sp

/-- `Push(v)` (R41): write, then decrement SP. -/
def push (s : State) (v : Byte) : State := (s.writeByte (stackSlot s.sp) v).setSP (s.sp - 1)

/-- The state after `Pull()` (R42): SP incremented. -/
def afterPull (s : State) : State := s.setSP (s.sp + 1)

/-- The byte `Pull()` returns (R42): read after the increment. -/
def pulled (s : State) : Byte := s.readByte (stackSlot (s.sp + 1))

/-- `Push16(w)` (R43): high byte first. -/
def push16 (s : State) (w : Word) : State := (s.push (hi8 w)).push (lo8 w)

/-- The state after `Pull16()` (R43). -/
def afterPull16 (s : State) : State := s.afterPull.afterPull

/-- The word `Pull16()` returns (R43): the low byte is pulled first. -/
def pulled16 (s : State) : Word := word s.afterPull.pulled s.pulled

/-! ### PC, run state and reset -/

/-- The generic advance by the operand width (R63). -/
def advance (s : State) (width : Nat) : State := s.setPC (s.pc + BitVec.ofNat 16 width)

/-- PC moved past the opcode byte, as the dispatch loop does before the lookup (R63, R64). -/
def pastOpcode (s : State) : State := s.setPC (s.pc + 1)

/-- `raise F(info)` (R142): the run state becomes Faulted and the record holds F and info; nothing else is written (the
PC increment has been made by the dispatch loop). There is no return from it (R148); only `reset()` leaves Faulted. -/
def raise (s : State) (record : FaultRecord) : State := { s with run := .faulted record }

/-- `run <- Halted` (R136). -/
def halt (s : State) : State := { s with run := .halted }

/-- `reset()` (R157): registers, Status, PC from the vector, run state Running and an empty fault record. It writes no
memory byte (R158) and is valid in every run state (R159). -/
def resetOp (s : State) : State :=
  { s with
    a := 0x00
    x := 0x00
    y := 0x00
    sp := Config.stackReset
    status := 0x00
    pc := s.readWord Config.resetVector
    run := .running }

end State

/-- What a meaning answers. -/
abbrev Result := Host.Outcome State Fault Refusal

end Sys2Proof.Machine
end

