-- ==== Sys2Proof/Machine/Flags.lean ====
section
/-! DEFINITION. The status register's bits (spec/10_state.md R20) and every flag computation of the spec. -/

namespace Sys2Proof.Machine

/-- The eight bits of Status, by the spec's names (R20). -/
inductive Flag where
  | C | Z | I | D | B | B2 | V | N
deriving DecidableEq, Repr

/-- The bit position of a flag (R20). -/
def Flag.bit : Flag → Nat
  | .C => 0
  | .Z => 1
  | .I => 2
  | .D => 3
  | .B => 4
  | .B2 => 5
  | .V => 6
  | .N => 7

/-- The mask of a flag (R20). -/
def Flag.mask : Flag → Byte
  | .C => 0x01
  | .Z => 0x02
  | .I => 0x04
  | .D => 0x08
  | .B => 0x10
  | .B2 => 0x20
  | .V => 0x40
  | .N => 0x80

/-- One bit of a status byte. -/
def getFlag (f : Flag) (p : Byte) : Bool := p.getLsbD f.bit

/-- A status byte with one bit set or cleared. -/
def putFlag (f : Flag) (on : Bool) (p : Byte) : Byte := if on then p ||| f.mask else p &&& ~~~f.mask

/-- The bits PHP forces set and PLP clears: Break and Break2 (R128, R129). -/
def breakMask : Byte := Flag.mask .B ||| Flag.mask .B2

namespace State

/-- Reading `Status.f` (R10). -/
def flag (s : State) (f : Flag) : Bool := getFlag f s.status

/-- `Status.f <- on` (R10). -/
def setFlag (s : State) (f : Flag) (on : Bool) : State := s.setStatus (putFlag f on s.status)

/-- `setZN(v)` (R11): Z is 1 iff `v` is 0; N is bit 7 of `v`. -/
def setZN (s : State) (v : Byte) : State := (s.setFlag .Z (v == 0)).setFlag .N v.msb

end State

/-- The unbounded sum of ADC and SBC, 0 to 511 (R106, R107). -/
def carrySum (a m : Byte) (c : Bool) : Nat := a.toNat + m.toNat + c.toNat

/-- The carry out: the unmasked sum exceeds 255 (R106, R107). -/
def carryOut (a m : Byte) (c : Bool) : Bool := decide (carrySum a m c > 255)

/-- The masked sum (R106, R107). -/
def sumByte (a m : Byte) (c : Bool) : Byte := BitVec.ofNat 8 (carrySum a m c)

/-- The overflow flag, `((A XOR r) AND (M XOR r))[7]` (R106, R107). -/
def overflowOut (a m r : Byte) : Bool := ((a ^^^ r) &&& (m ^^^ r)).msb

/-- ASL: `f(v, c) = ((v * 2) mod 256, v[7])` (R102). -/
def aslFn (v : Byte) (_ : Bool) : Byte × Bool := (v * 2, v.getLsbD 7)

/-- LSR: `f(v, c) = (v div 2, v[0])` (R103). -/
def lsrFn (v : Byte) (_ : Bool) : Byte × Bool := (v / 2, v.getLsbD 0)

/-- ROL: `f(v, c) = ((v * 2 + c) mod 256, v[7])` (R104). -/
def rolFn (v : Byte) (c : Bool) : Byte × Bool := (v * 2 + (if c then 1 else 0), v.getLsbD 7)

/-- ROR: `f(v, c) = (v div 2 + 128 * c, v[0])` (R105). -/
def rorFn (v : Byte) (c : Bool) : Byte × Bool := (v / 2 + (if c then 128 else 0), v.getLsbD 0)

end Sys2Proof.Machine
end

