-- ==== Sys2Proof/Machine/Operands.lean ====
section
/-! DEFINITION. Every operand form: the effective address and operand byte of a decoded operand (spec/40 R69 to R77),
and the four shapes an instruction's access to its operand has. PC is the address of the first operand byte, as in the
spec's rules (R13, R64). The resolver as the spec writes it, reading operand bytes at PC, is in Machine/Loop.lean. -/

namespace Sys2Proof.Machine

/-- The effective address of a decoded operand (R69 to R77). -/
def effAddr (o : MemOperand) (s : State) : Word :=
  match o with
  | .imm _ => s.pc
  | .zp b => zext16 b
  | .zpx b => zext16 (b + s.x)
  | .zpy b => zext16 (b + s.y)
  | .abs w => w
  | .absx w => w + zext16 s.x
  | .absy w => w + zext16 s.y
  | .indx b => s.readWordInPage (zext16 (b + s.x))
  | .indy b => s.readWordInPage (zext16 b) + zext16 s.y

/-- The operand byte `M = MemRead(ea, 1)` (R68); of an immediate it is the literal operand byte (R69, log entry 5). -/
def operandByte (o : MemOperand) (s : State) : Byte :=
  match o with
  | .imm b => b
  | o => s.readByte (effAddr o s)

/-- An instruction that reads `M` and computes with it; then the generic advance (R63). -/
def reading (o : MemOperand) (f : Byte → State → State) (s : State) : Result :=
  .next ((f (operandByte o s) s).advance o.form.width)

/-- An instruction that stores one byte at `ea`; then the generic advance (R63). -/
def storing (o : MemOperand) (v : Byte) (s : State) : Result :=
  .next ((s.writeByte (effAddr o s) v).advance o.form.width)

/-- A read-modify-write instruction: `f` gets `ea`; then the generic advance (R63, R79). -/
def modifying (o : MemOperand) (f : Word → State → State) (s : State) : Result :=
  .next ((f (effAddr o s) s).advance o.form.width)

/-- An implied instruction: operand width 0, so PC is already past it (R63, R65). -/
def implied (f : State → State) (s : State) : Result := .next (f s)

end Sys2Proof.Machine
end

