-- ==== Sys2Proof/Machine/Arith.lean ====
section
/-! DEFINITION. Arithmetic, compare and bit-test instructions (spec/45_arith_compare_bit.md). -/

namespace Sys2Proof.Machine

/-- `A <- A + M + C` in binary whatever D holds; C from the unmasked sum, V from bit 7; setZN (R106). -/
def addToA (m : Byte) (s : State) : State :=
  let c := s.flag .C
  let r := sumByte s.a m c
  (((s.setFlag .C (carryOut s.a m c)).setFlag .V (overflowOut s.a m r)).setA r).setZN r

/-- ADC with any of its operands (R106). -/
def adcOp (o : MemOperand) (s : State) : Result := reading o addToA s

/-- `ADC #$nn`, opcode 0x69 (R106). -/
def execAdcImm (b : Byte) (s : State) : Result := adcOp (.imm b) s

/-- `ADC $nn`, opcode 0x65 (R106). -/
def execAdcZp (b : Byte) (s : State) : Result := adcOp (.zp b) s

/-- `ADC $nn,X`, opcode 0x75 (R106). -/
def execAdcZpx (b : Byte) (s : State) : Result := adcOp (.zpx b) s

/-- `ADC $hhll`, opcode 0x6D (R106). -/
def execAdcAbs (w : Word) (s : State) : Result := adcOp (.abs w) s

/-- `ADC $hhll,X`, opcode 0x7D (R106). -/
def execAdcAbsx (w : Word) (s : State) : Result := adcOp (.absx w) s

/-- `ADC $hhll,Y`, opcode 0x79 (R106). -/
def execAdcAbsy (w : Word) (s : State) : Result := adcOp (.absy w) s

/-- `ADC ($nn,X)`, opcode 0x61 (R106). -/
def execAdcIndx (b : Byte) (s : State) : Result := adcOp (.indx b) s

/-- `ADC ($nn),Y`, opcode 0x71 (R106). -/
def execAdcIndy (b : Byte) (s : State) : Result := adcOp (.indy b) s

/-- SBC is ADC of the one's complement of the operand (R107). -/
def subtractFromA (m : Byte) (s : State) : State := addToA (m ^^^ 0xFF) s

/-- SBC with any of its operands (R107). -/
def sbcOp (o : MemOperand) (s : State) : Result := reading o subtractFromA s

/-- `SBC #$nn`, opcode 0xE9 (R107). -/
def execSbcImm (b : Byte) (s : State) : Result := sbcOp (.imm b) s

/-- `SBC $nn`, opcode 0xE5 (R107). -/
def execSbcZp (b : Byte) (s : State) : Result := sbcOp (.zp b) s

/-- `SBC $nn,X`, opcode 0xF5 (R107). -/
def execSbcZpx (b : Byte) (s : State) : Result := sbcOp (.zpx b) s

/-- `SBC $hhll`, opcode 0xED (R107). -/
def execSbcAbs (w : Word) (s : State) : Result := sbcOp (.abs w) s

/-- `SBC $hhll,X`, opcode 0xFD (R107). -/
def execSbcAbsx (w : Word) (s : State) : Result := sbcOp (.absx w) s

/-- `SBC $hhll,Y`, opcode 0xF9 (R107). -/
def execSbcAbsy (w : Word) (s : State) : Result := sbcOp (.absy w) s

/-- `SBC ($nn,X)`, opcode 0xE1 (R107). -/
def execSbcIndx (b : Byte) (s : State) : Result := sbcOp (.indx b) s

/-- `SBC ($nn),Y`, opcode 0xF1 (R107). -/
def execSbcIndy (b : Byte) (s : State) : Result := sbcOp (.indy b) s

/-- `Compare(reg, M)`: C is set iff `reg >= M` unsigned; Z and N from the masked difference (R108). -/
def compareBytes (reg m : Byte) (s : State) : State := (s.setFlag .C (decide (m.toNat ≤ reg.toNat))).setZN (reg - m)

/-- CMP with any of its operands (R109). -/
def cmpOp (o : MemOperand) (s : State) : Result := reading o (compareBytes s.a) s

/-- `CMP #$nn`, opcode 0xC9 (R109). -/
def execCmpImm (b : Byte) (s : State) : Result := cmpOp (.imm b) s

/-- `CMP $nn`, opcode 0xC5 (R109). -/
def execCmpZp (b : Byte) (s : State) : Result := cmpOp (.zp b) s

/-- `CMP $nn,X`, opcode 0xD5 (R109). -/
def execCmpZpx (b : Byte) (s : State) : Result := cmpOp (.zpx b) s

/-- `CMP $hhll`, opcode 0xCD (R109). -/
def execCmpAbs (w : Word) (s : State) : Result := cmpOp (.abs w) s

/-- `CMP $hhll,X`, opcode 0xDD (R109). -/
def execCmpAbsx (w : Word) (s : State) : Result := cmpOp (.absx w) s

/-- `CMP $hhll,Y`, opcode 0xD9 (R109). -/
def execCmpAbsy (w : Word) (s : State) : Result := cmpOp (.absy w) s

/-- `CMP ($nn,X)`, opcode 0xC1 (R109). -/
def execCmpIndx (b : Byte) (s : State) : Result := cmpOp (.indx b) s

/-- `CMP ($nn),Y`, opcode 0xD1 (R109). -/
def execCmpIndy (b : Byte) (s : State) : Result := cmpOp (.indy b) s

/-- CPX with any of its operands (R110). -/
def cpxOp (o : MemOperand) (s : State) : Result := reading o (compareBytes s.x) s

/-- `CPX #$nn`, opcode 0xE0 (R110). -/
def execCpxImm (b : Byte) (s : State) : Result := cpxOp (.imm b) s

/-- `CPX $nn`, opcode 0xE4 (R110). -/
def execCpxZp (b : Byte) (s : State) : Result := cpxOp (.zp b) s

/-- `CPX $hhll`, opcode 0xEC (R110). -/
def execCpxAbs (w : Word) (s : State) : Result := cpxOp (.abs w) s

/-- CPY with any of its operands (R111). -/
def cpyOp (o : MemOperand) (s : State) : Result := reading o (compareBytes s.y) s

/-- `CPY #$nn`, opcode 0xC0 (R111). -/
def execCpyImm (b : Byte) (s : State) : Result := cpyOp (.imm b) s

/-- `CPY $nn`, opcode 0xC4 (R111). -/
def execCpyZp (b : Byte) (s : State) : Result := cpyOp (.zp b) s

/-- `CPY $hhll`, opcode 0xCC (R111). -/
def execCpyAbs (w : Word) (s : State) : Result := cpyOp (.abs w) s

/-- Z from `A AND M`, N from bit 7 of `M`, V from bit 6 of `M`; A is unmodified (R112). -/
def bitTest (m : Byte) (s : State) : State :=
  ((s.setFlag .Z (s.a &&& m == 0)).setFlag .N (m.getLsbD 7)).setFlag .V (m.getLsbD 6)

/-- BIT with any of its operands (R112). -/
def bitOp (o : MemOperand) (s : State) : Result := reading o bitTest s

/-- `BIT $nn`, opcode 0x24 (R112). -/
def execBitZp (b : Byte) (s : State) : Result := bitOp (.zp b) s

/-- `BIT $hhll`, opcode 0x2C (R112). -/
def execBitAbs (w : Word) (s : State) : Result := bitOp (.abs w) s

end Sys2Proof.Machine
end

