-- ==== Sys2Proof/Machine/Branch.lean ====
section
/-! DEFINITION. Conditional branch instructions (spec/46_branch.md). -/

namespace Sys2Proof.Machine

/-- `Branch(cond)` with the offset byte `off` (R113): PC past the offset byte, then plus the signed offset if the condition
holds. It is redirecting: no generic advance follows (R66). -/
def branch (cond : Bool) (off : Byte) (s : State) : State :=
  s.setPC (if cond then s.pc + 1 + sext16 off else s.pc + 1)

/-- `BCC $target`, opcode 0x90 (R114). -/
def execBcc (b : Byte) (s : State) : Result := .next (branch (!s.flag .C) b s)

/-- `BCS $target`, opcode 0xB0 (R115). -/
def execBcs (b : Byte) (s : State) : Result := .next (branch (s.flag .C) b s)

/-- `BEQ $target`, opcode 0xF0 (R116). -/
def execBeq (b : Byte) (s : State) : Result := .next (branch (s.flag .Z) b s)

/-- `BNE $target`, opcode 0xD0 (R117). -/
def execBne (b : Byte) (s : State) : Result := .next (branch (!s.flag .Z) b s)

/-- `BMI $target`, opcode 0x30 (R118). -/
def execBmi (b : Byte) (s : State) : Result := .next (branch (s.flag .N) b s)

/-- `BPL $target`, opcode 0x10 (R119). -/
def execBpl (b : Byte) (s : State) : Result := .next (branch (!s.flag .N) b s)

/-- `BVC $target`, opcode 0x50 (R120). -/
def execBvc (b : Byte) (s : State) : Result := .next (branch (!s.flag .V) b s)

/-- `BVS $target`, opcode 0x70 (R121). -/
def execBvs (b : Byte) (s : State) : Result := .next (branch (s.flag .V) b s)

end Sys2Proof.Machine
end

