-- ==== Sys2Proof/Machine/FlagControl.lean ====
section
/-! DEFINITION. Flag and control instructions (spec/49_flags_control.md). SEI and SED decode only under P_SEI_SED (R139). -/

namespace Sys2Proof.Machine

/-- `SEC`, opcode 0x38 (R130). -/
def execSec (s : State) : Result := implied (fun s => s.setFlag .C true) s

/-- `CLC`, opcode 0x18 (R131). -/
def execClc (s : State) : Result := implied (fun s => s.setFlag .C false) s

/-- `CLI`, opcode 0x58 (R132). -/
def execCli (s : State) : Result := implied (fun s => s.setFlag .I false) s

/-- `CLD`, opcode 0xD8 (R133). -/
def execCld (s : State) : Result := implied (fun s => s.setFlag .D false) s

/-- `CLV`, opcode 0xB8 (R134). -/
def execClv (s : State) : Result := implied (fun s => s.setFlag .V false) s

/-- `NOP`, opcode 0xEA (R135). -/
def execNop (s : State) : Result := implied (fun s => s) s

/-- `BRK`, opcode 0x00 (R136). -/
def execBrk (s : State) : Result := implied State.halt s

/-- `SEI`, opcode 0x78 (R137). -/
def execSei (s : State) : Result := implied (fun s => s.setFlag .I true) s

/-- `SED`, opcode 0xF8 (R138). -/
def execSed (s : State) : Result := implied (fun s => s.setFlag .D true) s

end Sys2Proof.Machine
end

