-- ==== Sys2Proof/Machine/IncDec.lean ====
section
/-! DEFINITION. Increment and decrement instructions (spec/42_incdec.md). -/

namespace Sys2Proof.Machine

/-- `X <- (X + 1) mod 256; setZN(X)` (R92). R92's example and S3 of spec/95_test_vectors.md say that two INX from X = 0xFF give
0x02, where this pseudocode gives 0x00 and then 0x01. DESIGN CHOICE: the model follows the pseudocode (log entry 10). -/
def incrementX (s : State) : State := (s.setX (s.x + 1)).setZN (s.x + 1)

/-- `INX`, opcode 0xE8 (R92). -/
def execInx (s : State) : Result := implied incrementX s

/-- `Y <- (Y + 1) mod 256; setZN(Y)` (R93). -/
def incrementY (s : State) : State := (s.setY (s.y + 1)).setZN (s.y + 1)

/-- `INY`, opcode 0xC8 (R93). -/
def execIny (s : State) : Result := implied incrementY s

/-- `X <- (X - 1) mod 256; setZN(X)` (R94). -/
def decrementX (s : State) : State := (s.setX (s.x - 1)).setZN (s.x - 1)

/-- `DEX`, opcode 0xCA (R94). -/
def execDex (s : State) : Result := implied decrementX s

/-- `Y <- (Y - 1) mod 256; setZN(Y)` (R95). -/
def decrementY (s : State) : State := (s.setY (s.y - 1)).setZN (s.y - 1)

/-- `DEY`, opcode 0x88 (R95). -/
def execDey (s : State) : Result := implied decrementY s

/-- `M <- MemRead(ea, 1); r <- (M + 1) mod 256; MemWrite(ea, 1, r); setZN(r)` (R96). -/
def incrementAt (ea : Word) (s : State) : State := (s.writeByte ea (s.readByte ea + 1)).setZN (s.readByte ea + 1)

/-- INC with any of its operands (R96). -/
def incOp (o : MemOperand) (s : State) : Result := modifying o incrementAt s

/-- `INC $nn`, opcode 0xE6 (R96). -/
def execIncZp (b : Byte) (s : State) : Result := incOp (.zp b) s

/-- `INC $nn,X`, opcode 0xF6 (R96). -/
def execIncZpx (b : Byte) (s : State) : Result := incOp (.zpx b) s

/-- `INC $hhll`, opcode 0xEE (R96). -/
def execIncAbs (w : Word) (s : State) : Result := incOp (.abs w) s

/-- `INC $hhll,X`, opcode 0xFE (R96). -/
def execIncAbsx (w : Word) (s : State) : Result := incOp (.absx w) s

/-- `M <- MemRead(ea, 1); r <- (M - 1) mod 256; MemWrite(ea, 1, r); setZN(r)` (R97). -/
def decrementAt (ea : Word) (s : State) : State := (s.writeByte ea (s.readByte ea - 1)).setZN (s.readByte ea - 1)

/-- DEC with any of its operands (R97). -/
def decOp (o : MemOperand) (s : State) : Result := modifying o decrementAt s

/-- `DEC $nn`, opcode 0xC6 (R97). -/
def execDecZp (b : Byte) (s : State) : Result := decOp (.zp b) s

/-- `DEC $nn,X`, opcode 0xD6 (R97). -/
def execDecZpx (b : Byte) (s : State) : Result := decOp (.zpx b) s

/-- `DEC $hhll`, opcode 0xCE (R97). -/
def execDecAbs (w : Word) (s : State) : Result := decOp (.abs w) s

/-- `DEC $hhll,X`, opcode 0xDE (R97). -/
def execDecAbsx (w : Word) (s : State) : Result := decOp (.absx w) s

end Sys2Proof.Machine
end

