-- ==== Sys2Proof/Machine/Jump.lean ====
section
/-! DEFINITION. Jump and subroutine instructions (spec/47_jump_subroutine.md). All are redirecting: no generic advance (R66). -/

namespace Sys2Proof.Machine

/-- JMP indirect: PC from the pointer at `p`, whose high byte is read in the same page (R123). -/
def jumpThrough (p : Word) (s : State) : State := s.setPC (s.readWordInPage p)

/-- `JMP $hhll`, opcode 0x4C (R122). -/
def execJmpJabs (w : Word) (s : State) : Result := .next (s.setPC w)

/-- `JMP ($hhll)`, opcode 0x6C (R123). -/
def execJmpInd (w : Word) (s : State) : Result := .next (jumpThrough w s)

/-- Push the address of the JSR's last byte, that is PC + 1 while PC is the first operand byte, then jump (R124). The target is an operand,
so it is read before the pushes. -/
def callTo (target : Word) (s : State) : State := (s.push16 (s.pc + 1)).setPC target

/-- `JSR $hhll`, opcode 0x20 (R124). -/
def execJsr (w : Word) (s : State) : Result := .next (callTo w s)

/-- Pull the return address and continue one past it (R125). -/
def returnFromCall (s : State) : State := s.afterPull16.setPC (s.pulled16 + 1)

/-- `RTS`, opcode 0x60 (R125). -/
def execRts (s : State) : Result := .next (returnFromCall s)

end Sys2Proof.Machine
end

