-- ==== Sys2Proof/Machine/LoadStore.lean ====
section
/-! DEFINITION. Load, store and transfer instructions (spec/41_load_store_transfer.md). -/

namespace Sys2Proof.Machine

/-- `A <- M; setZN(A)` (R80); also the effect of TXA, TYA with the source register as `M` (R88, R89). -/
def loadA (m : Byte) (s : State) : State := (s.setA m).setZN m

/-- LDA with any of its operands (R80). -/
def ldaOp (o : MemOperand) (s : State) : Result := reading o loadA s

/-- `LDA #$nn`, opcode 0xA9 (R80). -/
def execLdaImm (b : Byte) (s : State) : Result := ldaOp (.imm b) s

/-- `LDA $nn`, opcode 0xA5 (R80). -/
def execLdaZp (b : Byte) (s : State) : Result := ldaOp (.zp b) s

/-- `LDA $nn,X`, opcode 0xB5 (R80). -/
def execLdaZpx (b : Byte) (s : State) : Result := ldaOp (.zpx b) s

/-- `LDA $hhll`, opcode 0xAD (R80). -/
def execLdaAbs (w : Word) (s : State) : Result := ldaOp (.abs w) s

/-- `LDA $hhll,X`, opcode 0xBD (R80). -/
def execLdaAbsx (w : Word) (s : State) : Result := ldaOp (.absx w) s

/-- `LDA $hhll,Y`, opcode 0xB9 (R80). -/
def execLdaAbsy (w : Word) (s : State) : Result := ldaOp (.absy w) s

/-- `LDA ($nn,X)`, opcode 0xA1 (R80). -/
def execLdaIndx (b : Byte) (s : State) : Result := ldaOp (.indx b) s

/-- `LDA ($nn),Y`, opcode 0xB1 (R80). -/
def execLdaIndy (b : Byte) (s : State) : Result := ldaOp (.indy b) s

/-- `X <- M; setZN(X)` (R81); also the effect of TAX, TSX with the source register as `M` (R86, R90). -/
def loadX (m : Byte) (s : State) : State := (s.setX m).setZN m

/-- LDX with any of its operands (R81). -/
def ldxOp (o : MemOperand) (s : State) : Result := reading o loadX s

/-- `LDX #$nn`, opcode 0xA2 (R81). -/
def execLdxImm (b : Byte) (s : State) : Result := ldxOp (.imm b) s

/-- `LDX $nn`, opcode 0xA6 (R81). -/
def execLdxZp (b : Byte) (s : State) : Result := ldxOp (.zp b) s

/-- `LDX $nn,Y`, opcode 0xB6 (R81). -/
def execLdxZpy (b : Byte) (s : State) : Result := ldxOp (.zpy b) s

/-- `LDX $hhll`, opcode 0xAE (R81). -/
def execLdxAbs (w : Word) (s : State) : Result := ldxOp (.abs w) s

/-- `LDX $hhll,Y`, opcode 0xBE (R81). -/
def execLdxAbsy (w : Word) (s : State) : Result := ldxOp (.absy w) s

/-- `Y <- M; setZN(Y)` (R82); also the effect of TAY with A as `M` (R87). -/
def loadY (m : Byte) (s : State) : State := (s.setY m).setZN m

/-- LDY with any of its operands (R82). -/
def ldyOp (o : MemOperand) (s : State) : Result := reading o loadY s

/-- `LDY #$nn`, opcode 0xA0 (R82). -/
def execLdyImm (b : Byte) (s : State) : Result := ldyOp (.imm b) s

/-- `LDY $nn`, opcode 0xA4 (R82). -/
def execLdyZp (b : Byte) (s : State) : Result := ldyOp (.zp b) s

/-- `LDY $nn,X`, opcode 0xB4 (R82). -/
def execLdyZpx (b : Byte) (s : State) : Result := ldyOp (.zpx b) s

/-- `LDY $hhll`, opcode 0xAC (R82). -/
def execLdyAbs (w : Word) (s : State) : Result := ldyOp (.abs w) s

/-- `LDY $hhll,X`, opcode 0xBC (R82). -/
def execLdyAbsx (w : Word) (s : State) : Result := ldyOp (.absx w) s

/-- STA with any of its operands: `MemWrite(ea, 1, A)` (R83). -/
def staOp (o : MemOperand) (s : State) : Result := storing o s.a s

/-- `STA $nn`, opcode 0x85 (R83). -/
def execStaZp (b : Byte) (s : State) : Result := staOp (.zp b) s

/-- `STA $nn,X`, opcode 0x95 (R83). -/
def execStaZpx (b : Byte) (s : State) : Result := staOp (.zpx b) s

/-- `STA $hhll`, opcode 0x8D (R83). -/
def execStaAbs (w : Word) (s : State) : Result := staOp (.abs w) s

/-- `STA $hhll,X`, opcode 0x9D (R83). -/
def execStaAbsx (w : Word) (s : State) : Result := staOp (.absx w) s

/-- `STA $hhll,Y`, opcode 0x99 (R83). -/
def execStaAbsy (w : Word) (s : State) : Result := staOp (.absy w) s

/-- `STA ($nn,X)`, opcode 0x81 (R83). -/
def execStaIndx (b : Byte) (s : State) : Result := staOp (.indx b) s

/-- `STA ($nn),Y`, opcode 0x91 (R83). -/
def execStaIndy (b : Byte) (s : State) : Result := staOp (.indy b) s

/-- STX with any of its operands: `MemWrite(ea, 1, X)` (R84). -/
def stxOp (o : MemOperand) (s : State) : Result := storing o s.x s

/-- `STX $nn`, opcode 0x86 (R84). -/
def execStxZp (b : Byte) (s : State) : Result := stxOp (.zp b) s

/-- `STX $nn,Y`, opcode 0x96 (R84). -/
def execStxZpy (b : Byte) (s : State) : Result := stxOp (.zpy b) s

/-- `STX $hhll`, opcode 0x8E (R84). -/
def execStxAbs (w : Word) (s : State) : Result := stxOp (.abs w) s

/-- STY with any of its operands: `MemWrite(ea, 1, Y)` (R85). -/
def styOp (o : MemOperand) (s : State) : Result := storing o s.y s

/-- `STY $nn`, opcode 0x84 (R85). -/
def execStyZp (b : Byte) (s : State) : Result := styOp (.zp b) s

/-- `STY $nn,X`, opcode 0x94 (R85). -/
def execStyZpx (b : Byte) (s : State) : Result := styOp (.zpx b) s

/-- `STY $hhll`, opcode 0x8C (R85). -/
def execStyAbs (w : Word) (s : State) : Result := styOp (.abs w) s

/-- `TAX`, opcode 0xAA (R86). -/
def execTax (s : State) : Result := implied (fun s => loadX s.a s) s

/-- `TAY`, opcode 0xA8 (R87). -/
def execTay (s : State) : Result := implied (fun s => loadY s.a s) s

/-- `TXA`, opcode 0x8A (R88). -/
def execTxa (s : State) : Result := implied (fun s => loadA s.x s) s

/-- `TYA`, opcode 0x98 (R89). -/
def execTya (s : State) : Result := implied (fun s => loadA s.y s) s

/-- `TSX`, opcode 0xBA (R90). -/
def execTsx (s : State) : Result := implied (fun s => loadX s.sp s) s

/-- `SP <- X`, with no flag (R91). -/
def transferXToSP (s : State) : State := s.setSP s.x

/-- `TXS`, opcode 0x9A (R91). -/
def execTxs (s : State) : Result := implied transferXToSP s

end Sys2Proof.Machine
end

