-- ==== Sys2Proof/Machine/Logical.lean ====
section
/-! DEFINITION. Logical instructions (spec/43_logical.md). -/

namespace Sys2Proof.Machine

/-- `A <- A AND M; setZN(A)` (R98). -/
def andA (m : Byte) (s : State) : State := (s.setA (s.a &&& m)).setZN (s.a &&& m)

/-- AND with any of its operands (R98). -/
def andOp (o : MemOperand) (s : State) : Result := reading o andA s

/-- `AND #$nn`, opcode 0x29 (R98). -/
def execAndImm (b : Byte) (s : State) : Result := andOp (.imm b) s

/-- `AND $nn`, opcode 0x25 (R98). -/
def execAndZp (b : Byte) (s : State) : Result := andOp (.zp b) s

/-- `AND $nn,X`, opcode 0x35 (R98). -/
def execAndZpx (b : Byte) (s : State) : Result := andOp (.zpx b) s

/-- `AND $hhll`, opcode 0x2D (R98). -/
def execAndAbs (w : Word) (s : State) : Result := andOp (.abs w) s

/-- `AND $hhll,X`, opcode 0x3D (R98). -/
def execAndAbsx (w : Word) (s : State) : Result := andOp (.absx w) s

/-- `AND $hhll,Y`, opcode 0x39 (R98). -/
def execAndAbsy (w : Word) (s : State) : Result := andOp (.absy w) s

/-- `AND ($nn,X)`, opcode 0x21 (R98). -/
def execAndIndx (b : Byte) (s : State) : Result := andOp (.indx b) s

/-- `AND ($nn),Y`, opcode 0x31 (R98). -/
def execAndIndy (b : Byte) (s : State) : Result := andOp (.indy b) s

/-- `A <- A OR M; setZN(A)` (R99). -/
def orA (m : Byte) (s : State) : State := (s.setA (s.a ||| m)).setZN (s.a ||| m)

/-- ORA with any of its operands (R99). -/
def oraOp (o : MemOperand) (s : State) : Result := reading o orA s

/-- `ORA #$nn`, opcode 0x09 (R99). -/
def execOraImm (b : Byte) (s : State) : Result := oraOp (.imm b) s

/-- `ORA $nn`, opcode 0x05 (R99). -/
def execOraZp (b : Byte) (s : State) : Result := oraOp (.zp b) s

/-- `ORA $nn,X`, opcode 0x15 (R99). -/
def execOraZpx (b : Byte) (s : State) : Result := oraOp (.zpx b) s

/-- `ORA $hhll`, opcode 0x0D (R99). -/
def execOraAbs (w : Word) (s : State) : Result := oraOp (.abs w) s

/-- `ORA $hhll,X`, opcode 0x1D (R99). -/
def execOraAbsx (w : Word) (s : State) : Result := oraOp (.absx w) s

/-- `ORA $hhll,Y`, opcode 0x19 (R99). -/
def execOraAbsy (w : Word) (s : State) : Result := oraOp (.absy w) s

/-- `ORA ($nn,X)`, opcode 0x01 (R99). -/
def execOraIndx (b : Byte) (s : State) : Result := oraOp (.indx b) s

/-- `ORA ($nn),Y`, opcode 0x11 (R99). -/
def execOraIndy (b : Byte) (s : State) : Result := oraOp (.indy b) s

/-- `A <- A XOR M; setZN(A)` (R100). -/
def xorA (m : Byte) (s : State) : State := (s.setA (s.a ^^^ m)).setZN (s.a ^^^ m)

/-- EOR with any of its operands (R100). -/
def eorOp (o : MemOperand) (s : State) : Result := reading o xorA s

/-- `EOR #$nn`, opcode 0x49 (R100). -/
def execEorImm (b : Byte) (s : State) : Result := eorOp (.imm b) s

/-- `EOR $nn`, opcode 0x45 (R100). -/
def execEorZp (b : Byte) (s : State) : Result := eorOp (.zp b) s

/-- `EOR $nn,X`, opcode 0x55 (R100). -/
def execEorZpx (b : Byte) (s : State) : Result := eorOp (.zpx b) s

/-- `EOR $hhll`, opcode 0x4D (R100). -/
def execEorAbs (w : Word) (s : State) : Result := eorOp (.abs w) s

/-- `EOR $hhll,X`, opcode 0x5D (R100). -/
def execEorAbsx (w : Word) (s : State) : Result := eorOp (.absx w) s

/-- `EOR $hhll,Y`, opcode 0x59 (R100). -/
def execEorAbsy (w : Word) (s : State) : Result := eorOp (.absy w) s

/-- `EOR ($nn,X)`, opcode 0x41 (R100). -/
def execEorIndx (b : Byte) (s : State) : Result := eorOp (.indx b) s

/-- `EOR ($nn),Y`, opcode 0x51 (R100). -/
def execEorIndy (b : Byte) (s : State) : Result := eorOp (.indy b) s

end Sys2Proof.Machine
end

