-- ==== Sys2Proof/Machine/Shift.lean ====
section
/-! DEFINITION. Shift and rotate instructions (spec/44_shift_rotate.md). -/

namespace Sys2Proof.Machine

/-- The accumulator form of a shift or rotate with function `f` (R101). -/
def shiftA (f : Byte → Bool → Byte × Bool) (s : State) : State :=
  let r := f s.a (s.flag .C)
  ((s.setA r.1).setFlag .C r.2).setZN r.1

/-- The memory forms of a shift or rotate with function `f`: one read and one write at `ea` (R101). -/
def shiftAt (f : Byte → Bool → Byte × Bool) (ea : Word) (s : State) : State :=
  let r := f (s.readByte ea) (s.flag .C)
  ((s.writeByte ea r.1).setFlag .C r.2).setZN r.1

/-- ASL with any of its memory operands (R102). -/
def aslOp (o : MemOperand) (s : State) : Result := modifying o (shiftAt aslFn) s

/-- `ASL A`, opcode 0x0A (R102). -/
def execAslAcc (s : State) : Result := implied (shiftA aslFn) s

/-- `ASL $nn`, opcode 0x06 (R102). -/
def execAslZp (b : Byte) (s : State) : Result := aslOp (.zp b) s

/-- `ASL $nn,X`, opcode 0x16 (R102). -/
def execAslZpx (b : Byte) (s : State) : Result := aslOp (.zpx b) s

/-- `ASL $hhll`, opcode 0x0E (R102). -/
def execAslAbs (w : Word) (s : State) : Result := aslOp (.abs w) s

/-- `ASL $hhll,X`, opcode 0x1E (R102). -/
def execAslAbsx (w : Word) (s : State) : Result := aslOp (.absx w) s

/-- LSR with any of its memory operands (R103). -/
def lsrOp (o : MemOperand) (s : State) : Result := modifying o (shiftAt lsrFn) s

/-- `LSR A`, opcode 0x4A (R103). -/
def execLsrAcc (s : State) : Result := implied (shiftA lsrFn) s

/-- `LSR $nn`, opcode 0x46 (R103). -/
def execLsrZp (b : Byte) (s : State) : Result := lsrOp (.zp b) s

/-- `LSR $nn,X`, opcode 0x56 (R103). -/
def execLsrZpx (b : Byte) (s : State) : Result := lsrOp (.zpx b) s

/-- `LSR $hhll`, opcode 0x4E (R103). -/
def execLsrAbs (w : Word) (s : State) : Result := lsrOp (.abs w) s

/-- `LSR $hhll,X`, opcode 0x5E (R103). -/
def execLsrAbsx (w : Word) (s : State) : Result := lsrOp (.absx w) s

/-- ROL with any of its memory operands (R104). -/
def rolOp (o : MemOperand) (s : State) : Result := modifying o (shiftAt rolFn) s

/-- `ROL A`, opcode 0x2A (R104). -/
def execRolAcc (s : State) : Result := implied (shiftA rolFn) s

/-- `ROL $nn`, opcode 0x26 (R104). -/
def execRolZp (b : Byte) (s : State) : Result := rolOp (.zp b) s

/-- `ROL $nn,X`, opcode 0x36 (R104). -/
def execRolZpx (b : Byte) (s : State) : Result := rolOp (.zpx b) s

/-- `ROL $hhll`, opcode 0x2E (R104). -/
def execRolAbs (w : Word) (s : State) : Result := rolOp (.abs w) s

/-- `ROL $hhll,X`, opcode 0x3E (R104). -/
def execRolAbsx (w : Word) (s : State) : Result := rolOp (.absx w) s

/-- ROR with any of its memory operands (R105). -/
def rorOp (o : MemOperand) (s : State) : Result := modifying o (shiftAt rorFn) s

/-- `ROR A`, opcode 0x6A (R105). -/
def execRorAcc (s : State) : Result := implied (shiftA rorFn) s

/-- `ROR $nn`, opcode 0x66 (R105). -/
def execRorZp (b : Byte) (s : State) : Result := rorOp (.zp b) s

/-- `ROR $nn,X`, opcode 0x76 (R105). -/
def execRorZpx (b : Byte) (s : State) : Result := rorOp (.zpx b) s

/-- `ROR $hhll`, opcode 0x6E (R105). -/
def execRorAbs (w : Word) (s : State) : Result := rorOp (.abs w) s

/-- `ROR $hhll,X`, opcode 0x7E (R105). -/
def execRorAbsx (w : Word) (s : State) : Result := rorOp (.absx w) s

end Sys2Proof.Machine
end

