-- ==== Sys2Proof/Machine/Stack.lean ====
section
/-! DEFINITION. Stack instructions (spec/48_stack.md). -/

namespace Sys2Proof.Machine

/-- `Push(A)` (R126). -/
def pushA (s : State) : State := s.push s.a

/-- `PHA`, opcode 0x48 (R126). -/
def execPha (s : State) : Result := implied pushA s

/-- `A <- Pull(); setZN(A)` (R127). -/
def pullA (s : State) : State := (s.afterPull.setA s.pulled).setZN s.pulled

/-- `PLA`, opcode 0x68 (R127). -/
def execPla (s : State) : Result := implied pullA s

/-- `Push(Status OR 0x30)` (R128). -/
def pushStatus (s : State) : State := s.push (s.status ||| breakMask)

/-- `PHP`, opcode 0x08 (R128). -/
def execPhp (s : State) : Result := implied pushStatus s

/-- `v <- Pull(); Status <- v AND 0xCF` (R129). -/
def pullStatus (s : State) : State := s.afterPull.setStatus (s.pulled &&& ~~~breakMask)

/-- `PLP`, opcode 0x28 (R129). -/
def execPlp (s : State) : Result := implied pullStatus s

end Sys2Proof.Machine
end

