-- ==== Sys2Proof/Machine/Fetch.lean ====
section
/-! DEFINITION. Fetching and decoding at PC (spec/40 R63), and placing an instruction where the next fetch finds it. -/

namespace Sys2Proof.Machine.State

/-- The bytes at PC, as many as the longest instruction has (R50); reading them has no side effect (R45, log entry 7). -/
def fetchBytes (s : State) : List Byte := [s.readByte s.pc, s.readByte (s.pc + 1), s.readByte (s.pc + 2)]

/-- The instruction at PC, or UnimplementedOpcode(op, p) when the byte there has no table entry (R63, R143). -/
def fetchInstr (s : State) : Except FaultRecord Instr :=
  match decode s.pSeiSed s.fetchBytes with
  | .ok (i, _) => .ok i
  | .error _ => .error (.unimplementedOpcode (s.readByte s.pc) s.pc)

/-- Store bytes from an address on, in order, addresses masked (R35, R160). -/
def writeBytes (s : State) (addr : Word) : List Byte → State
  | [] => s
  | b :: rest => (s.writeByte addr b).writeBytes (addr + 1) rest

/-- True for the opcode bytes that are mapped only when P_SEI_SED is true (R139). -/
def needsSeiSed (op : Byte) : Bool := (decodeOpcode false op).isNone && (decodeOpcode true op).isSome

/-- Place the bytes of an instruction at PC, with the core Running and, for the two bytes that need it, P_SEI_SED true,
so that the very next step runs it (log entry 6). -/
def placeInstr (s : State) (bytes : List Byte) : State :=
  { s.writeBytes s.pc bytes with
    run := .running
    pSeiSed := s.pSeiSed || needsSeiSed (bytes.headD 0) }

end Sys2Proof.Machine.State
end

