-- ==== Sys2Proof/Machine/Step.lean ====
section
/-! DEFINITION. One step of the core (spec/40 R63) and the host's placing of an instruction word. -/

namespace Sys2Proof.Machine

/-- One step: only a Running core takes one (R26, R63). The opcode byte is fetched and PC moved past it; a mapped opcode's
instruction is executed, an unmapped one raises UnimplementedOpcode (R143). -/
def step (s : State) : Host.Outcome State Fault Refusal :=
  match s.run with
  | .running =>
    match s.fetchInstr with
    | .ok i => exec i s.pastOpcode
    | .error record => .next (s.pastOpcode.raise record)
  | .halted => .fault .coreHalted
  | .faulted record => .fault (.coreFaulted record)

/-- `s` with the instruction whose bits are `w` (numbered as spec/opcode_table.json numbers them) placed where the next
step fetches it. -/
def State.withFetchWord (s : State) (nbits w : Nat) : State := s.placeInstr (tableBytes nbits w)

end Sys2Proof.Machine
end

