-- ==== Sys2Proof/Machine/Loop.lean ====
section
/-! DEFINITION. The dispatch loop as spec/40 R63 writes it: the static table as the 16 x 16 grid (spec/30 section 3.1), the
resolver that reads operand bytes at PC (R68 to R78), one semantic function per mnemonic (R60), and the generic advance
for instructions that are not redirecting (R66). It is the spec's second account of a step: a claim says that `step`,
which decodes to an instruction and runs that instruction's own meaning, takes exactly this step. -/

namespace Sys2Proof.Machine

/-- An opcode-table entry (R55); the mode tag and the operand width follow from the form (R53). -/
structure Entry where
  mnemonic : Mnemonic
  form : Form
deriving DecidableEq, Repr

/-- A mapped cell of the grid. -/
def at_ (m : Mnemonic) (f : Form) : Option Entry := some ⟨m, f⟩

/-- An unmapped cell of the grid. -/
def no : Option Entry := none

/-- A row of the opcode grid, by the high nibble of the opcode (R56, section 3.1). -/
def gridRow (hi : Nat) : List (Option Entry) :=
  match hi with
  | 0x0 => [at_ .brk .imp, at_ .ora .indx, no, no, no, at_ .ora .zp, at_ .asl .zp, no,
      at_ .php .imp, at_ .ora .imm, at_ .asl .acc, no, no, at_ .ora .abs, at_ .asl .abs, no]
  | 0x1 => [at_ .bpl .rel, at_ .ora .indy, no, no, no, at_ .ora .zpx, at_ .asl .zpx, no,
      at_ .clc .imp, at_ .ora .absy, no, no, no, at_ .ora .absx, at_ .asl .absx, no]
  | 0x2 => [at_ .jsr .jabs, at_ .and .indx, no, no, at_ .bit .zp, at_ .and .zp, at_ .rol .zp, no,
      at_ .plp .imp, at_ .and .imm, at_ .rol .acc, no, at_ .bit .abs, at_ .and .abs, at_ .rol .abs, no]
  | 0x3 => [at_ .bmi .rel, at_ .and .indy, no, no, no, at_ .and .zpx, at_ .rol .zpx, no,
      at_ .sec .imp, at_ .and .absy, no, no, no, at_ .and .absx, at_ .rol .absx, no]
  | 0x4 => [no, at_ .eor .indx, no, no, no, at_ .eor .zp, at_ .lsr .zp, no,
      at_ .pha .imp, at_ .eor .imm, at_ .lsr .acc, no, at_ .jmp .jabs, at_ .eor .abs, at_ .lsr .abs, no]
  | 0x5 => [at_ .bvc .rel, at_ .eor .indy, no, no, no, at_ .eor .zpx, at_ .lsr .zpx, no,
      at_ .cli .imp, at_ .eor .absy, no, no, no, at_ .eor .absx, at_ .lsr .absx, no]
  | 0x6 => [at_ .rts .imp, at_ .adc .indx, no, no, no, at_ .adc .zp, at_ .ror .zp, no,
      at_ .pla .imp, at_ .adc .imm, at_ .ror .acc, no, at_ .jmp .ind, at_ .adc .abs, at_ .ror .abs, no]
  | 0x7 => [at_ .bvs .rel, at_ .adc .indy, no, no, no, at_ .adc .zpx, at_ .ror .zpx, no,
      at_ .sei .imp, at_ .adc .absy, no, no, no, at_ .adc .absx, at_ .ror .absx, no]
  | 0x8 => [no, at_ .sta .indx, no, no, at_ .sty .zp, at_ .sta .zp, at_ .stx .zp, no,
      at_ .dey .imp, no, at_ .txa .imp, no, at_ .sty .abs, at_ .sta .abs, at_ .stx .abs, no]
  | 0x9 => [at_ .bcc .rel, at_ .sta .indy, no, no, at_ .sty .zpx, at_ .sta .zpx, at_ .stx .zpy, no,
      at_ .tya .imp, at_ .sta .absy, at_ .txs .imp, no, no, at_ .sta .absx, no, no]
  | 0xA => [at_ .ldy .imm, at_ .lda .indx, at_ .ldx .imm, no, at_ .ldy .zp, at_ .lda .zp, at_ .ldx .zp, no,
      at_ .tay .imp, at_ .lda .imm, at_ .tax .imp, no, at_ .ldy .abs, at_ .lda .abs, at_ .ldx .abs, no]
  | 0xB => [at_ .bcs .rel, at_ .lda .indy, no, no, at_ .ldy .zpx, at_ .lda .zpx, at_ .ldx .zpy, no,
      at_ .clv .imp, at_ .lda .absy, at_ .tsx .imp, no, at_ .ldy .absx, at_ .lda .absx, at_ .ldx .absy, no]
  | 0xC => [at_ .cpy .imm, at_ .cmp .indx, no, no, at_ .cpy .zp, at_ .cmp .zp, at_ .dec .zp, no,
      at_ .iny .imp, at_ .cmp .imm, at_ .dex .imp, no, at_ .cpy .abs, at_ .cmp .abs, at_ .dec .abs, no]
  | 0xD => [at_ .bne .rel, at_ .cmp .indy, no, no, no, at_ .cmp .zpx, at_ .dec .zpx, no,
      at_ .cld .imp, at_ .cmp .absy, no, no, no, at_ .cmp .absx, at_ .dec .absx, no]
  | 0xE => [at_ .cpx .imm, at_ .sbc .indx, no, no, at_ .cpx .zp, at_ .sbc .zp, at_ .inc .zp, no,
      at_ .inx .imp, at_ .sbc .imm, at_ .nop .imp, no, at_ .cpx .abs, at_ .sbc .abs, at_ .inc .abs, no]
  | 0xF => [at_ .beq .rel, at_ .sbc .indy, no, no, no, at_ .sbc .zpx, at_ .inc .zpx, no,
      at_ .sed .imp, at_ .sbc .absy, no, no, no, at_ .sbc .absx, at_ .inc .absx, no]
  | _ => []

/-- The mnemonics mapped only when P_SEI_SED is true (R139). -/
def onlySeiSed (m : Mnemonic) : Bool := m == .sei || m == .sed

/-- TABLE of R63: the entry of an opcode byte, or none (R55, R56, R57, R139). -/
def table (pSeiSed : Bool) (op : Byte) : Option Entry :=
  match (gridRow (op.toNat / 16)).getD (op.toNat % 16) none with
  | none => none
  | some e => if onlySeiSed e.mnemonic && !pSeiSed then none else some e

/-- The redirecting instructions: exactly the eight branches, JMP, JSR and RTS (R66). -/
def redirecting : Mnemonic → Bool
  | .bcc | .bcs | .beq | .bne | .bmi | .bpl | .bvc | .bvs | .jmp | .jsr | .rts => true
  | _ => false

/-- A zero-page pointer at `base`: both bytes from the zero page (R76, R77). -/
def zeroPagePointer (base : Byte) (s : State) : Word := word (s.readByte (zext16 (base + 1))) (s.readByte (zext16 base))

/-- `Resolve(mode)` (R68): the effective address from the operand bytes at PC, with PC unchanged; NONE raises
UnsupportedAddressingMode (R78). -/
def resolve (tag : ModeTag) (s : State) : Except FaultRecord Word :=
  match tag with
  | .immediate => .ok s.pc
  | .zeroPage => .ok (zext16 (s.readByte s.pc))
  | .zeroPageX => .ok (zext16 (s.readByte s.pc + s.x))
  | .zeroPageY => .ok (zext16 (s.readByte s.pc + s.y))
  | .absolute => .ok (s.readWord s.pc)
  | .absoluteX => .ok (s.readWord s.pc + zext16 s.x)
  | .absoluteY => .ok (s.readWord s.pc + zext16 s.y)
  | .indirectX => .ok (zeroPagePointer (s.readByte s.pc + s.x) s)
  | .indirectY => .ok (zeroPagePointer (s.readByte s.pc) s + zext16 s.y)
  | .none => .error .unsupportedAddressingMode

/-- A shift's semantic function (R101): on A for the form acc, else on the byte at `ea`. -/
def shiftSemantic (f : Byte → Bool → Byte × Bool) (form : Form) (ea : Word) (s : State) : State :=
  match form with
  | .acc => shiftA f s
  | _ => shiftAt f ea s

/-- A branch's semantic function reads its own offset byte at PC (R54, R113). -/
def branchSemantic (cond : Bool) (s : State) : State := branch cond (s.readByte s.pc) s

/-- `Semantic[mnemonic](form, ea)`: one semantic function per mnemonic (R60), with the operand read at `ea`. `ea` means
nothing to the forms whose mode tag is NONE. -/
def semantic (m : Mnemonic) (form : Form) (ea : Word) (s : State) : State :=
  match m with
  | .lda => loadA (s.readByte ea) s
  | .ldx => loadX (s.readByte ea) s
  | .ldy => loadY (s.readByte ea) s
  | .sta => s.writeByte ea s.a
  | .stx => s.writeByte ea s.x
  | .sty => s.writeByte ea s.y
  | .tax => loadX s.a s
  | .tay => loadY s.a s
  | .txa => loadA s.x s
  | .tya => loadA s.y s
  | .tsx => loadX s.sp s
  | .txs => transferXToSP s
  | .inx => incrementX s
  | .iny => incrementY s
  | .dex => decrementX s
  | .dey => decrementY s
  | .inc => incrementAt ea s
  | .dec => decrementAt ea s
  | .and => andA (s.readByte ea) s
  | .ora => orA (s.readByte ea) s
  | .eor => xorA (s.readByte ea) s
  | .asl => shiftSemantic aslFn form ea s
  | .lsr => shiftSemantic lsrFn form ea s
  | .rol => shiftSemantic rolFn form ea s
  | .ror => shiftSemantic rorFn form ea s
  | .adc => addToA (s.readByte ea) s
  | .sbc => subtractFromA (s.readByte ea) s
  | .cmp => compareBytes s.a (s.readByte ea) s
  | .cpx => compareBytes s.x (s.readByte ea) s
  | .cpy => compareBytes s.y (s.readByte ea) s
  | .bit => bitTest (s.readByte ea) s
  | .bcc => branchSemantic (!s.flag .C) s
  | .bcs => branchSemantic (s.flag .C) s
  | .beq => branchSemantic (s.flag .Z) s
  | .bne => branchSemantic (!s.flag .Z) s
  | .bmi => branchSemantic (s.flag .N) s
  | .bpl => branchSemantic (!s.flag .N) s
  | .bvc => branchSemantic (!s.flag .V) s
  | .bvs => branchSemantic (s.flag .V) s
  | .jmp =>
    match form with
    | .ind => jumpThrough (s.readWord s.pc) s
    | _ => s.setPC (s.readWord s.pc)
  | .jsr => callTo (s.readWord s.pc) s
  | .rts => returnFromCall s
  | .pha => pushA s
  | .pla => pullA s
  | .php => pushStatus s
  | .plp => pullStatus s
  | .sec => s.setFlag .C true
  | .clc => s.setFlag .C false
  | .cli => s.setFlag .I false
  | .cld => s.setFlag .D false
  | .clv => s.setFlag .V false
  | .nop => s
  | .brk => s.halt
  | .sei => s.setFlag .I true
  | .sed => s.setFlag .D true

/-- The effective address an entry's semantic function gets: resolved when the mode is not NONE, else of no meaning (the
address 0 stands there and no semantic function of such a form reads it). -/
def entryAddress (e : Entry) (s : State) : Except FaultRecord Word :=
  match e.form.modeTag with
  | .none => .ok 0
  | tag => resolve tag s

/-- The body of the dispatch loop, `Step()` of R63, on a state whose run state is Running. -/
def loopStep (s : State) : State :=
  let op := s.readByte s.pc
  let s1 := s.pastOpcode
  match table s.pSeiSed op with
  | none => s1.raise (.unimplementedOpcode op s.pc)
  | some e =>
    match entryAddress e s1 with
    | .error record => s1.raise record
    | .ok ea =>
      let s2 := semantic e.mnemonic e.form ea s1
      if redirecting e.mnemonic then s2 else s2.advance e.form.width

end Sys2Proof.Machine
end

