-- ==== Sys2Proof/Machine/HostOps.lean ====
section
/-! DEFINITION. The host's operations between steps (spec/70 R156 to R166). `reset()` is `State.resetOp`, in
Machine/Ops.lean, and the memory accessors with a 16-bit address are there too. -/

namespace Sys2Proof.Machine

/-- `construct(P_SEI_SED)` (R156): memory zero-filled, the registers unspecified (free values, log entry 4), Halted. -/
def construct (pSeiSed : Bool) : State where
  a := Config.constructA
  x := Config.constructX
  y := Config.constructY
  sp := Config.constructSP
  pc := Config.constructPC
  status := Config.constructStatus
  run := .halted
  mem := []
  pSeiSed := pSeiSed

/-- The host's `readByte(addr)`: the address is masked to 16 bits (R34, R165). -/
def hostReadByte (s : State) (addr : Nat) : Byte := s.readByte (BitVec.ofNat 16 addr)

/-- The host's `writeByte(addr, value)`: the address is masked and `value & 0xFF` stored (R35, R165). -/
def hostWriteByte (s : State) (addr value : Nat) : State := s.writeByte (BitVec.ofNat 16 addr) (BitVec.ofNat 8 value)

/-- The host's `readWord(addr)` (R36, R165). -/
def hostReadWord (s : State) (addr : Nat) : Word := s.readWord (BitVec.ofNat 16 addr)

/-- The host's `writeWord(addr, value)` (R37, R165). -/
def hostWriteWord (s : State) (addr value : Nat) : State := s.writeWord (BitVec.ofNat 16 addr) (BitVec.ofNat 16 value)

/-- The memory component's `load(bytes, base)`: the bytes in order from `base`, addresses masked, then `base` into the
reset-vector word (R161, with the wrap and order of R160). -/
def loadAt (base : Word) (bytes : List Byte) (s : State) : State :=
  (s.writeBytes base bytes).writeWord Config.resetVector base

/-- `load(bytes)`: at 0x8000 (R160). -/
def load (bytes : List Byte) (s : State) : State := loadAt Config.loadBase bytes s

/-- `run()` (R67) until the core is not Running or the host's stop flag, checked between instructions (R153), is raised
after `n` steps. In Halted and Faulted it takes no step. -/
def runFor : Nat → State → State
  | 0, s => s
  | n + 1, s =>
    match step s with
    | .next t => runFor n t
    | .fault _ => s
    | .refused _ => s

/-- `loadAndRun(bytes)`: load, then reset, then run (R162), suspended after at most `n` steps. -/
def loadAndRun (bytes : List Byte) (n : Nat) (s : State) : State := runFor n (load bytes s).resetOp

end Sys2Proof.Machine
end

