-- ==== Sys2Proof/Safety.lean ====
section
/-! DEFINITION. The terms claims use: how a run ends (spec/60 R155), the invariant of reachable states (spec/10 R33),
the states the core can reach, and what a state transition leaves unchanged. -/

namespace Sys2Proof.Machine

/-- The normal end of a run: a BRK was executed (R155). -/
def State.endedNormally (s : State) : Prop := s.run = .halted

/-- The abnormal end of a run: an error, which refutes any claim of normal completion (R155). -/
def State.endedAbnormally (s : State) : Prop := ∃ record, s.run = .faulted record

/-- The invariant: memory in its canonical form and, but in a Faulted core, Break and Break2 clear in Status (R24, R33). R33 says
so of every reachable state; of Status after a fault 93 U4 lets no claim speak, so the invariant does not (log entry 3). -/
def State.Inv (s : State) : Prop :=
  Memory.wf s.mem ∧ (s.endedAbnormally ∨ (s.flag .B = false ∧ s.flag .B2 = false))

/-- The states of a core that has been reset once: by steps and by the host's operations between steps (R165, R166). -/
inductive Reachable : State → Prop where
  | firstReset (pSeiSed : Bool) : Reachable (construct pSeiSed).resetOp
  | stepped (s t : State) : Reachable s → step s = .next t → Reachable t
  | reset (s : State) : Reachable s → Reachable s.resetOp
  | hostWrote (s : State) (addr value : Nat) : Reachable s → Reachable (hostWriteByte s addr value)
  | loaded (s : State) (base : Word) (bytes : List Byte) : Reachable s → Reachable (loadAt base bytes s)

/-- The byte registers other than Status, by name (R15). -/
inductive Reg where
  | A | X | Y | SP
deriving DecidableEq, Repr

/-- Reading a byte register (R10). -/
def State.reg (s : State) : Reg → Byte
  | .A => s.a
  | .X => s.x
  | .Y => s.y
  | .SP => s.sp

/-- The mnemonics that R21 names as the writers of each flag. -/
def flagWriters : Flag → List Mnemonic
  | .C => [.adc, .sbc, .cmp, .cpx, .cpy, .asl, .lsr, .rol, .ror, .sec, .clc, .plp]
  | .Z => [.lda, .ldx, .ldy, .tax, .tay, .txa, .tya, .tsx, .inx, .iny, .dex, .dey, .inc, .dec] ++
      [.and, .ora, .eor, .asl, .lsr, .rol, .ror, .adc, .sbc, .cmp, .cpx, .cpy, .bit, .pla, .plp]
  | .I => [.cli, .plp, .sei]
  | .D => [.cld, .plp, .sed]
  | .B => [.plp]
  | .B2 => [.plp]
  | .V => [.adc, .sbc, .bit, .clv, .plp]
  | .N => [.lda, .ldx, .ldy, .tax, .tay, .txa, .tya, .tsx, .inx, .iny, .dex, .dey, .inc, .dec] ++
      [.and, .ora, .eor, .asl, .lsr, .rol, .ror, .adc, .sbc, .cmp, .cpx, .cpy, .bit, .pla, .plp]

/-- The mnemonics that R16 to R19 name as the writers of each register. -/
def regWriters : Reg → List Mnemonic
  | .A => [.lda, .txa, .tya, .and, .ora, .eor, .adc, .sbc, .pla, .asl, .lsr, .rol, .ror]
  | .X => [.ldx, .tax, .tsx, .inx, .dex]
  | .Y => [.ldy, .tay, .iny, .dey]
  | .SP => [.txs, .pha, .php, .jsr, .pla, .plp, .rts]

/-- From `s` to `t` every byte register but those of `regs` and every flag but those of `flags` is unchanged, and so are
the run state and P_SEI_SED. It says nothing of PC and memory. -/
def Keeps (regs : List Reg) (flags : List Flag) (s t : State) : Prop :=
  (∀ r, r ∉ regs → t.reg r = s.reg r) ∧ (∀ f, f ∉ flags → t.flag f = s.flag f) ∧
    t.run = s.run ∧ t.pSeiSed = s.pSeiSed

/-- Every byte of memory outside `addrs` reads as before. -/
def MemorySameOutside (addrs : List Word) (s t : State) : Prop :=
  ∀ addr : Word, addr ∉ addrs → t.readByte addr = s.readByte addr

/-- Every byte of memory reads as before. -/
def MemorySame (s t : State) : Prop := ∀ addr : Word, t.readByte addr = s.readByte addr

/-- Z and N of `t` are those of the byte `v`: "Zero=(v==0), Negative=(v>=128)" (R11, R80). -/
def ZeroNegativeOf (v : Byte) (t : State) : Prop := t.flag .Z = decide (v = 0) ∧ t.flag .N = decide (128 ≤ v.toNat)

end Sys2Proof.Machine
end

