-- ==== Sys2Proof/Certificates/Slice0/Obligations.lean ====
section
/-! DEFINITION. The statements for the provers. An instruction's state argument is the one after the dispatch loop has moved
PC past the opcode byte (spec/40 R64), so `s.pc` is the address of the first operand byte. A statement of an instruction's
result says that `exec` answers a next state and what every register, every flag, PC and every byte of memory is in it. The
opcode bytes and the forms each mnemonic has are general knowledge in the spec (R56, G1, G2); they are stated apart, in
the encoding statements, and a statement quantifies over every instruction that has its mnemonic. -/

open Sys2Proof Sys2Proof.Machine

/-! ### Encoding (spec/30_encoding.md) -/

/-- Words written out bit by bit from the opcode map, one or more of every family, decode to their instructions. -/
def Obligations.SpecWordsDecode : Prop :=
  decode false [0b10101001, 0b01000010] = .ok (.ldaImm 0x42, []) ∧
  decode false [0b10110110, 0b11110000] = .ok (.ldxZpy 0xF0, []) ∧
  decode false [0b10001101, 0b00110100, 0b00010010] = .ok (.staAbs 0x1234, []) ∧
  decode false [0b10101010] = .ok (.tax, []) ∧
  decode false [0b11011110, 0b00000000, 0b00100000] = .ok (.decAbsx 0x2000, []) ∧
  decode false [0b00110001, 0b10000110] = .ok (.andIndy 0x86, []) ∧
  decode false [0b01101010] = .ok (.rorAcc, []) ∧
  decode false [0b11100001, 0b00100000] = .ok (.sbcIndx 0x20, []) ∧
  decode false [0b11010000, 0b11111000] = .ok (.bne 0xF8, []) ∧
  decode false [0b01101100, 0b11111111, 0b00110000] = .ok (.jmpInd 0x30FF, []) ∧
  decode false [0b00100000, 0b00000101, 0b10000000] = .ok (.jsr 0x8005, []) ∧
  decode false [0b00101000] = .ok (.plp, []) ∧
  decode false [0b00000000] = .ok (.brk, []) ∧
  decode true [0b01111000] = .ok (.sei, []) ∧
  decode false [0b01111000] = .error (.unmapped 0x78)

/-- Decoding the encoding of a well-formed instruction gives it back, whatever bytes follow it, with every operand at every
value. -/
def Obligations.DecodeEncodeRoundTrip : Prop :=
  ∀ (p : Bool) (i : Instr) (rest : List Byte), i.wf p = true → decode p (encode i ++ rest) = .ok (i, rest)

/-- Bytes that decode are the encoding of the instruction they decode to, followed by the rest: each byte string has one
reading, and only well-formed instructions are decoded. -/
def Obligations.DecodedBytesAreTheEncoding : Prop :=
  ∀ (p : Bool) (bytes rest : List Byte) (i : Instr), decode p bytes = .ok (i, rest) →
    i.wf p = true ∧ bytes = encode i ++ rest

/-- The 108 values that R57 lists. -/
def Sys2Proof.Machine.unmappedBytes : List Byte :=
  [0x02, 0x03, 0x04, 0x07, 0x0B, 0x0C, 0x0F, 0x12, 0x13, 0x14, 0x17, 0x1A, 0x1B, 0x1C, 0x1F, 0x22, 0x23, 0x27, 0x2B, 0x2F,
    0x32, 0x33, 0x34, 0x37, 0x3A, 0x3B, 0x3C, 0x3F] ++
  [0x40, 0x42, 0x43, 0x44, 0x47, 0x4B, 0x4F, 0x52, 0x53, 0x54, 0x57, 0x5A, 0x5B, 0x5C, 0x5F, 0x62, 0x63, 0x64, 0x67, 0x6B,
    0x6F, 0x72, 0x73, 0x74, 0x77, 0x78, 0x7A, 0x7B, 0x7C, 0x7F] ++
  [0x80, 0x82, 0x83, 0x87, 0x89, 0x8B, 0x8F, 0x92, 0x93, 0x97, 0x9B, 0x9C, 0x9E, 0x9F, 0xA3, 0xA7, 0xAB, 0xAF, 0xB2, 0xB3,
    0xB7, 0xBB, 0xBF] ++
  [0xC2, 0xC3, 0xC7, 0xCB, 0xCF, 0xD2, 0xD3, 0xD4, 0xD7, 0xDA, 0xDB, 0xDC, 0xDF, 0xE2, 0xE3, 0xE7, 0xEB, 0xEF, 0xF2, 0xF3,
    0xF4, 0xF7, 0xF8, 0xFA, 0xFB, 0xFC, 0xFF]

/-- The unmapped opcode bytes are exactly the 108 values of R57, less 0x78 and 0xF8 when P_SEI_SED is true. Which bytes are
mapped is the spec's own decision (R57: "decision: see 92_eei_decisions.md D3, D4"). -/
def Obligations.UnmappedBytesAreTheListed : Prop :=
  unmappedBytes.length = 108 ∧
  (∀ op : Byte, decodeOpcode false op = none ↔ op ∈ unmappedBytes) ∧
  (∀ op : Byte, decodeOpcode true op = none ↔ op ∈ unmappedBytes ∧ op ≠ 0x78 ∧ op ≠ 0xF8)

/-- The decoder and the spec's 16 x 16 opcode grid agree on every byte: bytes decode to an instruction of the grid's
mnemonic and form, and are refused as unmapped exactly where the grid is empty. The map is general knowledge (G1, G2). -/
def Obligations.DecoderAgreesWithOpcodeGrid : Prop :=
  ∀ (p : Bool) (op b1 b2 : Byte) (rest : List Byte),
    (table p op = none ∧ decode p (op :: b1 :: b2 :: rest) = .error (.unmapped op)) ∨
    (∃ i r, decode p (op :: b1 :: b2 :: rest) = .ok (i, r) ∧ table p op = some ⟨i.mnemonic, i.operand.form⟩ ∧
      (op :: b1 :: b2 :: rest).length = i.width + 1 + r.length)

/-! ### Memory, stack and status (spec/20_memory.md, spec/10_state.md) -/

/-- `readByte` and `writeByte` mask the address to 16 bits, `writeByte` stores `value & 0xFF`, and it changes that byte
and nothing else (R34, R35). -/
def Obligations.ByteAccessorsMaskAndStore : Prop :=
  ∀ (s : State) (addr value b : Nat),
    hostReadByte s addr = Memory.get s.mem (addr % 65536) ∧
    hostReadByte (hostWriteByte s addr value) b =
      (if b % 65536 = addr % 65536 then BitVec.ofNat 8 (value % 256) else hostReadByte s b) ∧
    Keeps [] [] s (hostWriteByte s addr value) ∧ (hostWriteByte s addr value).pc = s.pc

/-- `readWord` is the little-endian combine of two bytes and `writeWord` stores the low byte, then the high byte, at `addr`
and `addr + 1` modulo 65536, and no other byte (R36, R37, R38). -/
def Obligations.WordAccessorsAreLittleEndian : Prop :=
  ∀ (s : State) (addr value : Nat),
    (hostReadWord s addr).toNat = (hostReadByte s addr).toNat + 256 * (hostReadByte s ((addr + 1) % 65536)).toNat ∧
    hostReadByte (hostWriteWord s addr value) addr = BitVec.ofNat 8 (value % 256) ∧
    hostReadByte (hostWriteWord s addr value) (addr + 1) = BitVec.ofNat 8 (value / 256 % 256) ∧
    (∀ b : Nat, b % 65536 ≠ addr % 65536 → b % 65536 ≠ (addr + 1) % 65536 →
      hostReadByte (hostWriteWord s addr value) b = hostReadByte s b) ∧
    hostReadWord (hostWriteWord s addr value) addr = BitVec.ofNat 16 value

/-- `Push` writes at 0x0100 + SP and then decrements SP modulo 256; `Pull` increments SP modulo 256, reads at 0x0100 + SP
and erases nothing (R41, R42). -/
def Obligations.PushWritesThenPullReads : Prop :=
  ∀ (s : State) (v : Byte),
    (∀ b : Nat, hostReadByte (s.push v) b = if b % 65536 = 0x0100 + s.sp.toNat then v else hostReadByte s b) ∧
    (s.push v).sp.toNat = (s.sp.toNat + 255) % 256 ∧
    Keeps [.SP] [] s (s.push v) ∧ (s.push v).pc = s.pc ∧
    s.afterPull.sp.toNat = (s.sp.toNat + 1) % 256 ∧
    s.pulled = hostReadByte s (0x0100 + (s.sp.toNat + 1) % 256) ∧
    Keeps [.SP] [] s s.afterPull ∧ MemorySame s s.afterPull ∧ s.afterPull.pc = s.pc

/-- After `Push16(w)` from SP = s the high byte is at 0x0100 + s and the low byte at 0x0100 + ((s - 1) mod 256); `Pull16`
then returns `w` and restores SP. -/
def Obligations.Pull16InvertsPush16 : Prop :=
  ∀ (s : State) (w : Word),
    hostReadByte (s.push16 w) (0x0100 + s.sp.toNat) = hi8 w ∧
    hostReadByte (s.push16 w) (0x0100 + (s.sp.toNat + 255) % 256) = lo8 w ∧
    (s.push16 w).sp = s.sp - 2 ∧
    (s.push16 w).pulled16 = w ∧ (s.push16 w).afterPull16.sp = s.sp

/-- The packed status byte is the sum of its flags at bits 0 to 7 in the order C Z I D B B2 V N (R20), and writing one flag
writes that bit alone. -/
def Obligations.StatusPacksItsFlags : Prop :=
  ∀ (s : State) (f : Flag) (on : Bool),
    s.status.toNat =
      (s.flag .C).toNat * 0x01 + (s.flag .Z).toNat * 0x02 + (s.flag .I).toNat * 0x04 + (s.flag .D).toNat * 0x08 +
      (s.flag .B).toNat * 0x10 + (s.flag .B2).toNat * 0x20 + (s.flag .V).toNat * 0x40 + (s.flag .N).toNat * 0x80 ∧
    (s.setFlag f on).flag f = on ∧ Keeps [] [f] s (s.setFlag f on) ∧ MemorySame s (s.setFlag f on) ∧
    (s.setFlag f on).pc = s.pc

/-- The canonical form is canonical: two memories in that form that read alike at every address are the same list. -/
def Obligations.CanonicalMemoriesReadingAlikeAreEqual : Prop :=
  ∀ m m' : Memory, Memory.wf m → Memory.wf m' → (∀ a, a < 65536 → Memory.get m a = Memory.get m' a) → m = m'

/-! ### Addressing modes (spec/40_fetch_decode_addressing.md) -/

/-- The resolver computes each mode's address from the operand bytes at PC, wrapping as the mode says: modulo 256 in the
zero page, also for the pointer's second byte, and modulo 65536 elsewhere (R69 to R77). -/
def Obligations.ResolverComputesEachMode : Prop :=
  ∀ s : State,
    let b1 := (s.readByte s.pc).toNat
    let w := (s.readWord s.pc).toNat
    let pointer (base : Nat) : Nat := (hostReadByte s base).toNat + 256 * (hostReadByte s ((base + 1) % 256)).toNat
    resolve .immediate s = .ok s.pc ∧
    resolve .zeroPage s = .ok (BitVec.ofNat 16 b1) ∧
    resolve .zeroPageX s = .ok (BitVec.ofNat 16 ((b1 + s.x.toNat) % 256)) ∧
    resolve .zeroPageY s = .ok (BitVec.ofNat 16 ((b1 + s.y.toNat) % 256)) ∧
    resolve .absolute s = .ok (BitVec.ofNat 16 w) ∧
    resolve .absoluteX s = .ok (BitVec.ofNat 16 ((w + s.x.toNat) % 65536)) ∧
    resolve .absoluteY s = .ok (BitVec.ofNat 16 ((w + s.y.toNat) % 65536)) ∧
    resolve .indirectX s = .ok (BitVec.ofNat 16 (pointer ((b1 + s.x.toNat) % 256))) ∧
    resolve .indirectY s = .ok (BitVec.ofNat 16 ((pointer b1 + s.y.toNat) % 65536))

/-- A decoded operand means what the resolver finds in memory: when the operand's bytes lie at PC, the resolver of its mode
answers the effective address the meanings use, and the operand byte is the byte at that address (log entry 5). -/
def Obligations.DecodedOperandsResolveAlike : Prop :=
  ∀ (o : MemOperand) (s : State),
    (∀ k, k < o.bytes.length → o.bytes[k]? = some (s.readByte (s.pc + BitVec.ofNat 16 k))) →
    resolve o.form.modeTag s = .ok (effAddr o s) ∧ operandByte o s = s.readByte (effAddr o s)

/-! ### Loads, stores, transfers (spec/41) -/

/-- LDA, LDX and LDY, in every form: the register takes the operand byte, Z and N come from it, and nothing else but PC
changes (R80, R81, R82). -/
def Obligations.LoadsTakeOperandAndSetZN : Prop :=
  ∀ (i : Instr) (o : MemOperand) (s : State), i.operand = .mem o →
    (i.mnemonic = .lda → ∃ t, exec i s = .next t ∧ t.a = operandByte o s ∧ ZeroNegativeOf (operandByte o s) t ∧
      Keeps [.A] [.Z, .N] s t ∧ MemorySame s t ∧ t.pc = s.pc + BitVec.ofNat 16 o.form.width) ∧
    (i.mnemonic = .ldx → ∃ t, exec i s = .next t ∧ t.x = operandByte o s ∧ ZeroNegativeOf (operandByte o s) t ∧
      Keeps [.X] [.Z, .N] s t ∧ MemorySame s t ∧ t.pc = s.pc + BitVec.ofNat 16 o.form.width) ∧
    (i.mnemonic = .ldy → ∃ t, exec i s = .next t ∧ t.y = operandByte o s ∧ ZeroNegativeOf (operandByte o s) t ∧
      Keeps [.Y] [.Z, .N] s t ∧ MemorySame s t ∧ t.pc = s.pc + BitVec.ofNat 16 o.form.width)

/-- STA, STX and STY, in every form: the byte at the effective address takes the register, and every other byte, every
register and every flag is as before (R83, R84, R85). -/
def Obligations.StoresWriteOneByteAndNoFlag : Prop :=
  ∀ (i : Instr) (o : MemOperand) (s : State), i.operand = .mem o →
    (i.mnemonic = .sta → ∃ t, exec i s = .next t ∧ t.readByte (effAddr o s) = s.a ∧
      MemorySameOutside [effAddr o s] s t ∧ Keeps [] [] s t ∧ t.pc = s.pc + BitVec.ofNat 16 o.form.width) ∧
    (i.mnemonic = .stx → ∃ t, exec i s = .next t ∧ t.readByte (effAddr o s) = s.x ∧
      MemorySameOutside [effAddr o s] s t ∧ Keeps [] [] s t ∧ t.pc = s.pc + BitVec.ofNat 16 o.form.width) ∧
    (i.mnemonic = .sty → ∃ t, exec i s = .next t ∧ t.readByte (effAddr o s) = s.y ∧
      MemorySameOutside [effAddr o s] s t ∧ Keeps [] [] s t ∧ t.pc = s.pc + BitVec.ofNat 16 o.form.width)

/-- TAX, TAY, TXA, TYA and TSX copy a register and set Z and N from it; TXS copies X to SP and writes no flag (R86 to
R91). -/
def Obligations.TransfersCopyRegisters : Prop :=
  ∀ s : State,
    (∃ t, exec .tax s = .next t ∧ t.x = s.a ∧ ZeroNegativeOf s.a t ∧ Keeps [.X] [.Z, .N] s t ∧ MemorySame s t ∧ t.pc = s.pc) ∧
    (∃ t, exec .tay s = .next t ∧ t.y = s.a ∧ ZeroNegativeOf s.a t ∧ Keeps [.Y] [.Z, .N] s t ∧ MemorySame s t ∧ t.pc = s.pc) ∧
    (∃ t, exec .txa s = .next t ∧ t.a = s.x ∧ ZeroNegativeOf s.x t ∧ Keeps [.A] [.Z, .N] s t ∧ MemorySame s t ∧ t.pc = s.pc) ∧
    (∃ t, exec .tya s = .next t ∧ t.a = s.y ∧ ZeroNegativeOf s.y t ∧ Keeps [.A] [.Z, .N] s t ∧ MemorySame s t ∧ t.pc = s.pc) ∧
    (∃ t, exec .tsx s = .next t ∧ t.x = s.sp ∧ ZeroNegativeOf s.sp t ∧ Keeps [.X] [.Z, .N] s t ∧ MemorySame s t ∧ t.pc = s.pc) ∧
    (∃ t, exec .txs s = .next t ∧ t.sp = s.x ∧ Keeps [.SP] [] s t ∧ MemorySame s t ∧ t.pc = s.pc)

/-! ### Increments and decrements (spec/42) -/

/-- INX, INY, DEX and DEY add or subtract 1 modulo 256 and set Z and N from the new value (R92 to R95). For INX this is R92's
pseudocode, which its own example contradicts ("`INX INX` from X=0xFF yields X=0x02"): that INX of 0x00 gives 0x01 is the
model's choice, log entry 10 (DESIGN CHOICE). -/
def Obligations.RegisterIncrementsWrap : Prop :=
  ∀ s : State,
    (∃ t, exec .inx s = .next t ∧ t.x.toNat = (s.x.toNat + 1) % 256 ∧ ZeroNegativeOf t.x t ∧ Keeps [.X] [.Z, .N] s t ∧
      MemorySame s t ∧ t.pc = s.pc) ∧
    (∃ t, exec .iny s = .next t ∧ t.y.toNat = (s.y.toNat + 1) % 256 ∧ ZeroNegativeOf t.y t ∧ Keeps [.Y] [.Z, .N] s t ∧
      MemorySame s t ∧ t.pc = s.pc) ∧
    (∃ t, exec .dex s = .next t ∧ (t.x.toNat : Int) = ((s.x.toNat : Int) - 1) % 256 ∧ ZeroNegativeOf t.x t ∧
      Keeps [.X] [.Z, .N] s t ∧ MemorySame s t ∧ t.pc = s.pc) ∧
    (∃ t, exec .dey s = .next t ∧ (t.y.toNat : Int) = ((s.y.toNat : Int) - 1) % 256 ∧ ZeroNegativeOf t.y t ∧
      Keeps [.Y] [.Z, .N] s t ∧ MemorySame s t ∧ t.pc = s.pc)

/-- INC and DEC, in every form: the byte at the effective address plus or minus 1 modulo 256 is written back there, Z and N
come from the new value, and every other byte is as before (R96, R97). -/
def Obligations.MemoryIncrementsWrap : Prop :=
  ∀ (i : Instr) (o : MemOperand) (s : State), i.operand = .mem o →
    (i.mnemonic = .inc → ∃ t, exec i s = .next t ∧
      (t.readByte (effAddr o s)).toNat = ((s.readByte (effAddr o s)).toNat + 1) % 256 ∧
      ZeroNegativeOf (t.readByte (effAddr o s)) t ∧ MemorySameOutside [effAddr o s] s t ∧ Keeps [] [.Z, .N] s t ∧
      t.pc = s.pc + BitVec.ofNat 16 o.form.width) ∧
    (i.mnemonic = .dec → ∃ t, exec i s = .next t ∧
      ((t.readByte (effAddr o s)).toNat : Int) = (((s.readByte (effAddr o s)).toNat : Int) - 1) % 256 ∧
      ZeroNegativeOf (t.readByte (effAddr o s)) t ∧ MemorySameOutside [effAddr o s] s t ∧ Keeps [] [.Z, .N] s t ∧
      t.pc = s.pc + BitVec.ofNat 16 o.form.width)

/-! ### Logical (spec/43) -/

/-- AND, ORA and EOR, in every form: A takes the bitwise result of A and the operand byte, Z and N come from it, and C, V
and everything else are unchanged (R98, R99, R100). -/
def Obligations.LogicalOperationsOnA : Prop :=
  ∀ (i : Instr) (o : MemOperand) (s : State), i.operand = .mem o →
    (i.mnemonic = .and → ∃ t, exec i s = .next t ∧
      (∀ k, k < 8 → t.a.getLsbD k = (s.a.getLsbD k && (operandByte o s).getLsbD k)) ∧ ZeroNegativeOf t.a t ∧
      Keeps [.A] [.Z, .N] s t ∧ MemorySame s t ∧ t.pc = s.pc + BitVec.ofNat 16 o.form.width) ∧
    (i.mnemonic = .ora → ∃ t, exec i s = .next t ∧
      (∀ k, k < 8 → t.a.getLsbD k = (s.a.getLsbD k || (operandByte o s).getLsbD k)) ∧ ZeroNegativeOf t.a t ∧
      Keeps [.A] [.Z, .N] s t ∧ MemorySame s t ∧ t.pc = s.pc + BitVec.ofNat 16 o.form.width) ∧
    (i.mnemonic = .eor → ∃ t, exec i s = .next t ∧
      (∀ k, k < 8 → t.a.getLsbD k = (s.a.getLsbD k ^^ (operandByte o s).getLsbD k)) ∧ ZeroNegativeOf t.a t ∧
      Keeps [.A] [.Z, .N] s t ∧ MemorySame s t ∧ t.pc = s.pc + BitVec.ofNat 16 o.form.width)

/-! ### Shifts and rotates (spec/44) -/

/-- What R101 says of a shift or rotate whose result from a value `v` and the old carry `c` is `result v c` and whose carry
out is bit `out` of `v`: in the accumulator form on A, in the memory forms on the byte at the effective address. -/
def Sys2Proof.Machine.ShiftsBy (m : Mnemonic) (result : Nat → Nat → Nat) (out : Nat) : Prop :=
  ∀ (i : Instr) (s : State), i.mnemonic = m →
    (i.operand = .acc → ∃ t, exec i s = .next t ∧ t.a.toNat = result s.a.toNat (s.flag .C).toNat ∧
      t.flag .C = s.a.getLsbD out ∧ ZeroNegativeOf t.a t ∧ Keeps [.A] [.C, .Z, .N] s t ∧ MemorySame s t ∧ t.pc = s.pc) ∧
    (∀ o, i.operand = .mem o → ∃ t, exec i s = .next t ∧
      (t.readByte (effAddr o s)).toNat = result (s.readByte (effAddr o s)).toNat (s.flag .C).toNat ∧
      t.flag .C = (s.readByte (effAddr o s)).getLsbD out ∧ ZeroNegativeOf (t.readByte (effAddr o s)) t ∧
      MemorySameOutside [effAddr o s] s t ∧ Keeps [] [.C, .Z, .N] s t ∧ t.pc = s.pc + BitVec.ofNat 16 o.form.width) ∧
    (i.operand = .acc ∨ ∃ o, i.operand = .mem o)

/-- ASL doubles modulo 256 with bit 7 to C; LSR halves with bit 0 to C and N clear; both ignore the old carry. Which bits
they move is the spec's own choice (R102, R103: "from general knowledge, not in source", D10). -/
def Obligations.ShiftsMoveOutOneBit : Prop :=
  ShiftsBy .asl (fun v _ => v * 2 % 256) 7 ∧ ShiftsBy .lsr (fun v _ => v / 2) 0 ∧
  (∀ (i : Instr) (s t : State), i.mnemonic = .lsr → exec i s = .next t → t.flag .N = false)

/-- ROL doubles modulo 256 with the old carry into bit 0 and bit 7 to C; ROR halves with the old carry into bit 7 and bit 0
to C. Which bits they move is the spec's own choice (R104, R105: "from general knowledge, not in source", D10). -/
def Obligations.RotatesMoveThroughCarry : Prop :=
  ShiftsBy .rol (fun v c => (v * 2 + c) % 256) 7 ∧ ShiftsBy .ror (fun v c => v / 2 + 128 * c) 0

/-! ### Arithmetic (spec/45) -/

/-- ADC, in every form and whatever D holds (D7): A takes `A + M + C` modulo 256, C is set iff the sum exceeds 255, V iff the
operands' signs match and differ from the result's, Z and N from the final A (R106). -/
def Obligations.AddWithCarry : Prop :=
  ∀ (i : Instr) (o : MemOperand) (s : State), i.operand = .mem o → i.mnemonic = .adc →
    let sum := s.a.toNat + (operandByte o s).toNat + (s.flag .C).toNat
    ∃ t, exec i s = .next t ∧ t.a.toNat = sum % 256 ∧ t.flag .C = decide (sum > 255) ∧
      t.flag .V = (s.a.getLsbD 7 == (operandByte o s).getLsbD 7 && t.a.getLsbD 7 != s.a.getLsbD 7) ∧
      ZeroNegativeOf t.a t ∧ Keeps [.A] [.C, .V, .Z, .N] s t ∧ MemorySame s t ∧
      t.pc = s.pc + BitVec.ofNat 16 o.form.width

/-- SBC, in every form and whatever D holds (D7): A takes `A - M - (1 - C)` modulo 256, C is set iff no borrow occurred, V is
bit 7 of `(A XOR M) AND (A XOR r)`, Z and N from the final A. The formula is the spec's own choice (R107, D8). -/
def Obligations.SubtractWithBorrow : Prop :=
  ∀ (i : Instr) (o : MemOperand) (s : State), i.operand = .mem o → i.mnemonic = .sbc →
    let diff : Int := (s.a.toNat : Int) - (operandByte o s).toNat - (1 - (s.flag .C).toNat)
    ∃ t, exec i s = .next t ∧ (t.a.toNat : Int) = diff % 256 ∧ t.flag .C = decide (0 ≤ diff) ∧
      t.flag .V = ((s.a ^^^ operandByte o s) &&& (s.a ^^^ t.a)).getLsbD 7 ∧
      ZeroNegativeOf t.a t ∧ Keeps [.A] [.C, .V, .Z, .N] s t ∧ MemorySame s t ∧
      t.pc = s.pc + BitVec.ofNat 16 o.form.width

/-- The overflow flag of ADC and SBC is signed overflow: V is set exactly when the exact signed result lies outside
-128 to 127. It follows from the bit-7 tests of R106 and R107. -/
def Obligations.OverflowIsSignedOverflow : Prop :=
  ∀ (i : Instr) (o : MemOperand) (s : State), i.operand = .mem o →
    let m := (operandByte o s).toInt
    (i.mnemonic = .adc → ∃ t, exec i s = .next t ∧
      t.flag .V = decide (s.a.toInt + m + (s.flag .C).toNat < -128 ∨ 127 < s.a.toInt + m + (s.flag .C).toNat)) ∧
    (i.mnemonic = .sbc → ∃ t, exec i s = .next t ∧
      t.flag .V = decide (s.a.toInt - m - (1 - (s.flag .C).toNat) < -128 ∨ 127 < s.a.toInt - m - (1 - (s.flag .C).toNat)))

/-- What R108 says of a compare of the byte `reg` with the byte `m`, from `s` to `t`: C is set iff `reg >= m` unsigned, Z and N
come from the masked difference, V and every register are unchanged. -/
def Sys2Proof.Machine.Compares (reg m : Byte) (s t : State) : Prop :=
  t.flag .C = decide (reg.toNat ≥ m.toNat) ∧ ZeroNegativeOf (BitVec.ofInt 8 ((reg.toNat : Int) - m.toNat)) t ∧
    Keeps [] [.C, .Z, .N] s t ∧ MemorySame s t

/-- CMP, CPX and CPY, in every form, compare A, X or Y with the operand byte (R108 to R111). -/
def Obligations.ComparesSetCZN : Prop :=
  ∀ (i : Instr) (o : MemOperand) (s : State), i.operand = .mem o →
    (i.mnemonic = .cmp → ∃ t, exec i s = .next t ∧ Compares s.a (operandByte o s) s t ∧
      t.pc = s.pc + BitVec.ofNat 16 o.form.width) ∧
    (i.mnemonic = .cpx → ∃ t, exec i s = .next t ∧ Compares s.x (operandByte o s) s t ∧
      t.pc = s.pc + BitVec.ofNat 16 o.form.width) ∧
    (i.mnemonic = .cpy → ∃ t, exec i s = .next t ∧ Compares s.y (operandByte o s) s t ∧
      t.pc = s.pc + BitVec.ofNat 16 o.form.width)

/-- BIT, in both forms: Z from `(A & operand) == 0`, N and V from bits 7 and 6 of the operand; A and everything else
unchanged (R112). -/
def Obligations.BitTestsOperand : Prop :=
  ∀ (i : Instr) (o : MemOperand) (s : State), i.operand = .mem o → i.mnemonic = .bit →
    ∃ t, exec i s = .next t ∧ t.flag .Z = decide (s.a &&& operandByte o s = 0) ∧
      t.flag .N = (operandByte o s).getLsbD 7 ∧ t.flag .V = (operandByte o s).getLsbD 6 ∧
      Keeps [] [.Z, .N, .V] s t ∧ MemorySame s t ∧ t.pc = s.pc + BitVec.ofNat 16 o.form.width

/-! ### Branches (spec/46) -/

/-- What R113 says of a branch that is taken under `cond`: PC goes past the offset byte, and then by the signed offset
(R9) when the condition holds, modulo 65536; nothing else changes. -/
def Sys2Proof.Machine.BranchesIf (i : Byte → Instr) (cond : State → Bool) : Prop :=
  ∀ (off : Byte) (s : State), ∃ t, exec (i off) s = .next t ∧
    (t.pc.toNat : Int) =
      ((s.pc.toNat : Int) + 1 +
        (if cond s then (if off.toNat < 128 then (off.toNat : Int) else off.toNat - 256) else 0)) % 65536 ∧
    Keeps [] [] s t ∧ MemorySame s t

/-- BCC branches when C is clear and BCS when C is set, by the shared branch operation (R113, R114, R115). -/
def Obligations.CarryBranches : Prop :=
  BranchesIf .bcc (fun s => s.flag .C == false) ∧ BranchesIf .bcs (fun s => s.flag .C == true)

/-- BEQ, BNE, BMI, BPL, BVC and BVS branch on Z, N and V, by the shared branch operation. Which value each tests is the
spec's own choice (R116 to R121: "from general knowledge, not in source"). -/
def Obligations.ZeroNegativeOverflowBranches : Prop :=
  BranchesIf .beq (fun s => s.flag .Z == true) ∧ BranchesIf .bne (fun s => s.flag .Z == false) ∧
  BranchesIf .bmi (fun s => s.flag .N == true) ∧ BranchesIf .bpl (fun s => s.flag .N == false) ∧
  BranchesIf .bvc (fun s => s.flag .V == false) ∧ BranchesIf .bvs (fun s => s.flag .V == true)

/-! ### Jumps and subroutines (spec/47) -/

/-- JMP absolute sets PC to its operand word; JMP indirect reads the pointer at its operand word, the high byte in the same
page: from 0xxx00 when the pointer is at 0xxxFF. Nothing else changes (R122, R123). -/
def Obligations.JumpsSetPC : Prop :=
  ∀ (w : Word) (s : State),
    (∃ t, exec (.jmpJabs w) s = .next t ∧ t.pc = w ∧ Keeps [] [] s t ∧ MemorySame s t) ∧
    (∃ t, exec (.jmpInd w) s = .next t ∧
      t.pc.toNat = (hostReadByte s w.toNat).toNat +
        256 * (hostReadByte s (w.toNat / 256 * 256 + (w.toNat + 1) % 256)).toNat ∧
      Keeps [] [] s t ∧ MemorySame s t)

/-- JSR pushes the address of its own last byte, high byte first, and jumps; the two stack bytes are the only ones that
change and SP goes down by 2 modulo 256 (R124). That the target is the operand as decoded, read before the pushes, is the
spec's own choice ("decision: see 92_eei_decisions.md D21"). -/
def Obligations.JsrPushesReturnAddress : Prop :=
  ∀ (w : Word) (s : State), ∃ t, exec (.jsr w) s = .next t ∧ t.pc = w ∧
    t.readByte (State.stackSlot s.sp) = hi8 (s.pc + 1) ∧ t.readByte (State.stackSlot (s.sp - 1)) = lo8 (s.pc + 1) ∧
    t.sp = s.sp - 2 ∧ MemorySameOutside [State.stackSlot s.sp, State.stackSlot (s.sp - 1)] s t ∧ Keeps [.SP] [] s t

/-- RTS pulls a word, low byte first, and sets PC to it plus 1 modulo 65536; SP goes up by 2 modulo 256 (R125). -/
def Obligations.RtsPullsAndAddsOne : Prop :=
  ∀ s : State, ∃ t, exec .rts s = .next t ∧
    t.pc.toNat = ((hostReadByte s (0x0100 + (s.sp.toNat + 1) % 256)).toNat +
      256 * (hostReadByte s (0x0100 + (s.sp.toNat + 2) % 256)).toNat + 1) % 65536 ∧
    t.sp.toNat = (s.sp.toNat + 2) % 256 ∧ Keeps [.SP] [] s t ∧ MemorySame s t

/-- A subroutine call comes back: a JSR, then an RTS run in any state with the SP and the two stack bytes the JSR left,
continues at the byte after the 3-byte JSR with SP as before the call. -/
def Obligations.RtsReturnsAfterJsr : Prop :=
  ∀ (w : Word) (s t u : State), exec (.jsr w) s = .next t → u.sp = t.sp →
    u.readByte (State.stackSlot s.sp) = t.readByte (State.stackSlot s.sp) →
    u.readByte (State.stackSlot (s.sp - 1)) = t.readByte (State.stackSlot (s.sp - 1)) →
    ∃ v, exec .rts u = .next v ∧ v.pc = s.pc + 2 ∧ v.sp = s.sp

/-! ### Stack instructions (spec/48) -/

/-- PHA writes A at 0x0100 + SP and decrements SP modulo 256; no flag, register or other byte changes (R126). -/
def Obligations.PhaPushesA : Prop :=
  ∀ s : State, ∃ t, exec .pha s = .next t ∧ t.readByte (State.stackSlot s.sp) = s.a ∧
    t.sp.toNat = (s.sp.toNat + 255) % 256 ∧ MemorySameOutside [State.stackSlot s.sp] s t ∧ Keeps [.SP] [] s t ∧ t.pc = s.pc

/-- PLA increments SP modulo 256 and loads A from 0x0100 + SP, setting Z and N from it. The flags are the spec's own choice
(R127: "decision: see 92_eei_decisions.md D9"). -/
def Obligations.PlaPullsA : Prop :=
  ∀ s : State, ∃ t, exec .pla s = .next t ∧ t.a = hostReadByte s (0x0100 + (s.sp.toNat + 1) % 256) ∧
    t.sp.toNat = (s.sp.toNat + 1) % 256 ∧ ZeroNegativeOf t.a t ∧ Keeps [.A, .SP] [.Z, .N] s t ∧ MemorySame s t ∧ t.pc = s.pc

/-- PHP pushes Status with Break and Break2 set and leaves Status as it is (R128). -/
def Obligations.PhpPushesStatusWithBreakSet : Prop :=
  ∀ s : State, ∃ t, exec .php s = .next t ∧
    (∀ f, getFlag f (t.readByte (State.stackSlot s.sp)) = (s.flag f || decide (f = .B ∨ f = .B2))) ∧
    t.sp.toNat = (s.sp.toNat + 255) % 256 ∧ t.status = s.status ∧ MemorySameOutside [State.stackSlot s.sp] s t ∧
    Keeps [.SP] [] s t ∧ t.pc = s.pc

/-- PLP increments SP and loads Status from 0x0100 + SP with Break and Break2 cleared; the other six flags take the pulled
bits (R129). -/
def Obligations.PlpPullsStatusWithBreakCleared : Prop :=
  ∀ s : State, ∃ t, exec .plp s = .next t ∧
    t.status = hostReadByte s (0x0100 + (s.sp.toNat + 1) % 256) &&& 0xCF ∧
    (∀ f, t.flag f = (getFlag f (hostReadByte s (0x0100 + (s.sp.toNat + 1) % 256)) && !decide (f = .B ∨ f = .B2))) ∧
    t.sp.toNat = (s.sp.toNat + 1) % 256 ∧
    Keeps [.SP] [.C, .Z, .I, .D, .B, .B2, .V, .N] s t ∧ MemorySame s t ∧ t.pc = s.pc

/-- Stack round trips: PHA then PLA restores A and SP; PHP then PLP restores SP and, when Break and Break2 are clear as in
every reachable state, Status. -/
def Obligations.StackRoundTripsRestore : Prop :=
  ∀ s : State,
    (∃ t u, exec .pha s = .next t ∧ exec .pla t = .next u ∧ u.a = s.a ∧ u.sp = s.sp) ∧
    (s.flag .B = false → s.flag .B2 = false →
      ∃ t u, exec .php s = .next t ∧ exec .plp t = .next u ∧ u.status = s.status ∧ u.sp = s.sp)

/-! ### Flags and control (spec/49) -/

/-- What a flag instruction does: it sets or clears exactly one bit of Status and changes nothing else. -/
def Sys2Proof.Machine.SetsOneFlag (i : Instr) (f : Flag) (on : Bool) : Prop :=
  ∀ s : State, ∃ t, exec i s = .next t ∧ t.flag f = on ∧ Keeps [] [f] s t ∧ MemorySame s t ∧ t.pc = s.pc

/-- SEC, CLC, CLI, CLD and CLV set or clear exactly their one bit, and NOP changes nothing besides the PC advance the dispatch
loop has made (R130 to R135). -/
def Obligations.FlagInstructionsAndNop : Prop :=
  SetsOneFlag .sec .C true ∧ SetsOneFlag .clc .C false ∧ SetsOneFlag .cli .I false ∧ SetsOneFlag .cld .D false ∧
  SetsOneFlag .clv .V false ∧ (∀ s : State, exec .nop s = .next s)

/-- With P_SEI_SED true, 0x78 is SEI and sets I, and 0xF8 is SED and sets D, each that one bit alone; with it false a Running
core that fetches either byte faults. Their existence is the spec's own choice (R137 to R139: "decision: see
92_eei_decisions.md D4"). -/
def Obligations.SeiSedUnderParameter : Prop :=
  SetsOneFlag .sei .I true ∧ SetsOneFlag .sed .D true ∧
  (∀ s : State, s.run = .running → s.pSeiSed = true →
    (s.readByte s.pc = 0x78 → step s = exec .sei (s.setPC (s.pc + 1))) ∧
    (s.readByte s.pc = 0xF8 → step s = exec .sed (s.setPC (s.pc + 1)))) ∧
  (∀ s : State, s.run = .running → s.pSeiSed = false →
    (s.readByte s.pc = 0x78 → ∃ t, step s = .next t ∧ t.run = .faulted (.unimplementedOpcode 0x78 s.pc)) ∧
    (s.readByte s.pc = 0xF8 → ∃ t, step s = .next t ∧ t.run = .faulted (.unimplementedOpcode 0xF8 s.pc)))

/-- BRK enters Halted and changes no register, flag or memory byte; a step that runs it at address p leaves PC = p + 1. That
it does nothing else is the spec's own choice (R136: "decision: see 92_eei_decisions.md D11"). -/
def Obligations.BrkHalts : Prop :=
  (∀ s : State, ∃ t, exec .brk s = .next t ∧ t.run = .halted ∧ (∀ r, t.reg r = s.reg r) ∧ t.status = s.status ∧
    t.pc = s.pc ∧ t.mem = s.mem ∧ t.pSeiSed = s.pSeiSed) ∧
  (∀ s : State, s.run = .running → s.readByte s.pc = 0x00 →
    ∃ t, step s = .next t ∧ t.run = .halted ∧ t.pc = s.pc + 1)

/-! ### The step (spec/40, spec/60) -/

/-- A step runs the decoded instruction: when the bytes at PC of a Running core decode to an instruction, the step is `exec`
of it on the state with PC moved past the opcode byte (R63, R64). -/
def Obligations.StepRunsDecodedInstruction : Prop :=
  ∀ (s : State) (i : Instr) (rest : List Byte), s.run = .running →
    decode s.pSeiSed [s.readByte s.pc, s.readByte (s.pc + 1), s.readByte (s.pc + 2)] = .ok (i, rest) →
    step s = exec i (s.setPC (s.pc + 1))

/-- The same from the encoder's side: when the bytes from PC on, wrapping past 0xFFFF, are the encoding of a well-formed
instruction, the step runs that instruction. -/
def Obligations.StepRunsEncodedInstruction : Prop :=
  ∀ (s : State) (i : Instr), s.run = .running → i.wf s.pSeiSed = true →
    (∀ k, k < (encode i).length → (encode i)[k]? = some (s.readByte (s.pc + BitVec.ofNat 16 k))) →
    step s = exec i (s.setPC (s.pc + 1))

/-- A Running core that fetches an unmapped byte op at address p enters Faulted with the record UnimplementedOpcode(op, p)
(R143), and PC is p + 1 (R142, which is the spec's own choice, D12). It says nothing of the other registers and of memory,
on which no claim may depend (93 U4, log entry 3). -/
def Obligations.UnmappedOpcodeFaults : Prop :=
  ∀ s : State, s.run = .running → table s.pSeiSed (s.readByte s.pc) = none →
    ∃ t, step s = .next t ∧ t.run = .faulted (.unimplementedOpcode (s.readByte s.pc) s.pc) ∧ t.pc = s.pc + 1

/-- Only a Running core takes a step: in Halted and in Faulted there is none (R26, R67; that `step` then answers these two
stops is log entry 2), and a Running core's step always completes, with a state that is Running, Halted or
Faulted (R140, R141: no address and no value stops it). -/
def Obligations.OnlyRunningCoreSteps : Prop :=
  ∀ s : State,
    (s.run = .halted → step s = .fault .coreHalted) ∧
    (∀ record, s.run = .faulted record → step s = .fault (.coreFaulted record)) ∧
    (s.run = .running → ∃ t, step s = .next t)

/-- No step enters Faulted but by an unmapped opcode byte: the resolver is never invoked with NONE, so
UnsupportedAddressingMode is unreachable, and a mapped instruction leaves the core Running, or Halted for BRK alone. -/
def Obligations.MappedInstructionsNeverFault : Prop :=
  ∀ s t : State, s.run = .running → step s = .next t →
    (∀ record, t.run = .faulted record →
      record = .unimplementedOpcode (s.readByte s.pc) s.pc ∧ table s.pSeiSed (s.readByte s.pc) = none) ∧
    (t.run = .halted ↔ s.readByte s.pc = 0x00)

/-- Every instruction completes, and one that is not redirecting advances PC by its operand width past the opcode byte, so a
step moves PC by its length (R65). Which instructions are redirecting is decided by mnemonic, the spec's own choice (D6). -/
def Obligations.NonRedirectingAdvanceByLength : Prop :=
  (∀ (i : Instr) (s : State), ∃ t, exec i s = .next t ∧
    (redirecting i.mnemonic = false → t.pc = s.pc + BitVec.ofNat 16 i.width)) ∧
  (∀ (s : State) (i : Instr) (rest : List Byte), s.run = .running → redirecting i.mnemonic = false →
    decode s.pSeiSed [s.readByte s.pc, s.readByte (s.pc + 1), s.readByte (s.pc + 2)] = .ok (i, rest) →
    ∃ t, step s = .next t ∧ t.pc = s.pc + BitVec.ofNat 16 (encode i).length)

/-- A flag is written only by the instructions that R21 lists as its writers: after any other it is as before. -/
def Obligations.FlagsWrittenOnlyByTheirWriters : Prop :=
  ∀ (i : Instr) (s t : State) (f : Flag), exec i s = .next t → i.mnemonic ∉ flagWriters f → t.flag f = s.flag f

/-- A, X, Y and SP are written only by the instructions that R16 to R19 list (A by a shift or rotate only in its accumulator
form). Memory is written only by the stores, the read-modify-write instructions in their memory forms and the pushes (R46,
and the rules of those instructions). P_SEI_SED is written by none: it is fixed at construction (R55 and R139, the spec's
own choice D4), and that State holds it is the model's choice, log entry 1 (DESIGN CHOICE). -/
def Obligations.RegistersWrittenOnlyByTheirWriters : Prop :=
  ∀ (i : Instr) (s t : State), exec i s = .next t →
    (∀ r : Reg, i.mnemonic ∉ regWriters r → t.reg r = s.reg r) ∧
    (i.mnemonic ∈ [.asl, .lsr, .rol, .ror] → i.operand ≠ .acc → t.a = s.a) ∧
    (i.mnemonic ∉ [.sta, .stx, .sty, .inc, .dec, .asl, .lsr, .rol, .ror, .pha, .php, .jsr] ∨ i.operand = .acc →
      t.mem = s.mem) ∧
    t.pSeiSed = s.pSeiSed

/-- I and D are stored state only: two Running cores that differ in I or in D alone take steps that differ in that flag alone,
unless the instruction is PHP, which copies it to the stack, or the step faults (of the registers after a fault 93 U4 lets
no claim speak). It follows from R22 (derived) and R23 (D7). -/
def Obligations.InterruptAndDecimalFlagsAreInert : Prop :=
  ∀ (s t : State) (f : Flag) (on : Bool), f = .I ∨ f = .D → step s = .next t → s.readByte s.pc ≠ 0x08 →
    ¬ t.endedAbnormally →
    ∃ u, step (s.setFlag f on) = .next u ∧ (∀ r, u.reg r = t.reg r) ∧ (∀ g, g ≠ f → u.flag g = t.flag g) ∧
      u.pc = t.pc ∧ u.run = t.run ∧ u.mem = t.mem ∧ u.pSeiSed = t.pSeiSed

/-- The machine is the spec's dispatch loop: the step of a Running core, which decodes an instruction and runs that
instruction's own meaning, is the step R63 writes over the static table, the resolver that reads operand bytes at PC and
one semantic function per mnemonic. Where the step faults, the two agree on what R142 leaves, the spec's own choice (D12). -/
def Obligations.StepIsTheDispatchLoop : Prop :=
  ∀ s : State, s.run = .running → step s = .next (loopStep s)

/-! ### Invariants (spec/10 R24, R33) -/

/-- Every step keeps memory in its canonical form, so that equal memories are equal data. -/
def Obligations.StepKeepsMemoryCanonical : Prop :=
  ∀ s t : State, Memory.wf s.mem → step s = .next t → Memory.wf t.mem

/-- Break and Break2 are not real stored state: every step that does not fault keeps them clear in Status, so PHP's pushed byte
is the only place where they are set. It follows from R21 and R129 (R24, derived). -/
def Obligations.StepKeepsBreakFlagsClear : Prop :=
  ∀ s t : State, s.flag .B = false → s.flag .B2 = false → step s = .next t → ¬ t.endedAbnormally →
    t.flag .B = false ∧ t.flag .B2 = false

/-- The invariant holds at reset, of a core that is not Faulted: memory is canonical and Break and Break2 are clear. -/
def Obligations.InvariantHoldsAtReset : Prop := State.reset.Inv ∧ ¬ State.reset.endedAbnormally

/-- The invariant holds in every state a core can reach once it has been reset, by steps and by the host's operations between
steps. That Break and Break2 are 0 in every such state is R33, the spec's own inference ("derived: from rule R24"). -/
def Obligations.ReachableStatesKeepInvariant : Prop := ∀ s : State, Reachable s → s.Inv

/-! ### Reset, load, run (spec/70) -/

/-- `reset()` zeroes A, X and Y, sets SP to 0xFD, clears Status, takes PC from the little-endian vector at 0xFFFC, writes no
memory byte and leaves the core Running (R157, R158). Two points are the spec's own choices (log entry 9): that it does so
from every run state (R159, D17), and that the fault record is then empty (R30, D12), which the run state Running says. -/
def Obligations.ResetSetsRegistersFromVector : Prop :=
  ∀ s : State, s.resetOp.a = 0 ∧ s.resetOp.x = 0 ∧ s.resetOp.y = 0 ∧ s.resetOp.sp = 0xFD ∧
    (∀ f, s.resetOp.flag f = false) ∧ s.resetOp.status = 0 ∧
    s.resetOp.pc.toNat = (hostReadByte s 0xFFFC).toNat + 256 * (hostReadByte s 0xFFFD).toNat ∧
    MemorySame s s.resetOp ∧ s.resetOp.run = .running ∧ s.resetOp.pSeiSed = s.pSeiSed

/-- A core that was never loaded: constructed, it is Halted with memory all zero; reset, it is the machine's reset state
(whatever its registers held), with PC = 0x0000, and its first step executes the 0x00 there as BRK and halts with PC =
0x0001 (R164, derived). -/
def Obligations.NeverLoadedCoreHalts : Prop :=
  (∀ p : Bool, (construct p).run = .halted ∧ ∀ addr, (construct p).readByte addr = 0) ∧
  (construct false).resetOp = State.reset ∧ State.reset.pc = 0x0000 ∧
  ∃ t, step State.reset = .next t ∧ t.run = .halted ∧ t.pc = 0x0001

/-- `load(bytes)` copies the bytes to memory from 0x8000 on, addresses masked, writes 0x8000 into the reset vector last, and
changes no register, no flag and no other byte; the next `reset()` then starts at 0x8000. Of an image that wraps onto itself
the later bytes stand. The wrap and the order are the spec's own choice (R160, D24). -/
def Obligations.LoadPlacesImageAndVector : Prop :=
  ∀ (bytes : List Byte) (s : State),
    (∀ k, (hk : k < bytes.length) → bytes.length ≤ k + 65536 → (0x8000 + k) % 65536 ≠ 0xFFFC → (0x8000 + k) % 65536 ≠ 0xFFFD →
      hostReadByte (load bytes s) (0x8000 + k) = bytes[k]) ∧
    hostReadByte (load bytes s) 0xFFFC = 0x00 ∧ hostReadByte (load bytes s) 0xFFFD = 0x80 ∧
    (∀ a, a < 65536 → (∀ k, k < bytes.length → (0x8000 + k) % 65536 ≠ a) → a ≠ 0xFFFC → a ≠ 0xFFFD →
      hostReadByte (load bytes s) a = hostReadByte s a) ∧
    Keeps [] [] s (load bytes s) ∧ (load bytes s).pc = s.pc ∧ (load bytes s).resetOp.pc = 0x8000

/-- A bounded run is resumable: `runFor`, suspended after m steps and called again, continues with the next step; and in Halted
and Faulted it takes no step and changes nothing. That `run()` is modelled as a run of at most n steps is the model's
choice, log entry 8 (DESIGN CHOICE); what is stated of it agrees with R67, the spec's own choice (D17). -/
def Obligations.RunIsResumable : Prop :=
  ∀ (m n : Nat) (s : State), runFor (m + n) s = runFor n (runFor m s) ∧
    (s.run ≠ .running → runFor n s = s) ∧ (∀ t, step s = .next t → runFor (n + 1) s = runFor n t)
end

