-- ==== Sys2Proof/Laws/Bits.lean ====
section
/-! SUPPORT. The values of the bit fields and of the concatenation, and that splitting and joining a word are inverse. -/

namespace Sys2Proof

theorem hi8_toNat (w : Word) : (hi8 w).toNat = w.toNat / 256 := by
  have := w.isLt
  simp only [hi8, BitVec.extractLsb'_toNat, Nat.shiftRight_eq_div_pow]
  omega

theorem lo8_toNat (w : Word) : (lo8 w).toNat = w.toNat % 256 := by
  simp [lo8, BitVec.extractLsb'_toNat]

theorem word_toNat (h l : Byte) : (word h l).toNat = h.toNat * 256 + l.toNat := by
  have := h.isLt; have := l.isLt
  simp only [word, BitVec.toNat_ofNat]
  omega

theorem zext16_toNat (v : Byte) : (zext16 v).toNat = v.toNat := by
  have := v.isLt
  simp only [zext16, BitVec.toNat_setWidth]
  omega

@[simp] theorem word_hi8_lo8 (w : Word) : word (hi8 w) (lo8 w) = w := by
  apply BitVec.eq_of_toNat_eq
  rw [word_toNat, hi8_toNat, lo8_toNat]
  omega

@[simp] theorem hi8_word (h l : Byte) : hi8 (word h l) = h := by
  have := l.isLt
  apply BitVec.eq_of_toNat_eq
  rw [hi8_toNat, word_toNat]
  omega

@[simp] theorem lo8_word (h l : Byte) : lo8 (word h l) = l := by
  have := l.isLt
  apply BitVec.eq_of_toNat_eq
  rw [lo8_toNat, word_toNat]
  omega

/-- The signed addend of a branch, modulo 65536 (R9, R113). -/
theorem sext16_toInt (v : Byte) : (sext16 v).toInt = if v.toNat < 128 then (v.toNat : Int) else v.toNat - 256 := by
  have := v.isLt
  rw [sext16, BitVec.toInt_signExtend_of_le (by decide), BitVec.toInt_eq_toNat_cond]
  split_ifs <;> omega

end Sys2Proof
end

