-- ==== Sys2Proof/Laws/State.lean ====
section
/-! SUPPORT. One lemma per field per update, so that no later proof unfolds a record update: what each named operation leaves
in each field, and that byte reads, flags and named registers look through an update of other fields. -/

namespace Sys2Proof.Machine.State

/-! ### setA -/

@[simp] theorem setA_a (s : State) (v : Byte) : (s.setA v).a = v := rfl
@[simp] theorem setA_x (s : State) (v : Byte) : (s.setA v).x = s.x := rfl
@[simp] theorem setA_y (s : State) (v : Byte) : (s.setA v).y = s.y := rfl
@[simp] theorem setA_sp (s : State) (v : Byte) : (s.setA v).sp = s.sp := rfl
@[simp] theorem setA_pc (s : State) (v : Byte) : (s.setA v).pc = s.pc := rfl
@[simp] theorem setA_status (s : State) (v : Byte) : (s.setA v).status = s.status := rfl
@[simp] theorem setA_run (s : State) (v : Byte) : (s.setA v).run = s.run := rfl
@[simp] theorem setA_mem (s : State) (v : Byte) : (s.setA v).mem = s.mem := rfl
@[simp] theorem setA_pSeiSed (s : State) (v : Byte) : (s.setA v).pSeiSed = s.pSeiSed := rfl
@[simp] theorem setA_flag (s : State) (v : Byte) (g : Flag) : (s.setA v).flag g = s.flag g := rfl
@[simp] theorem setA_readByte (s : State) (v : Byte) (b : Word) : (s.setA v).readByte b = s.readByte b := rfl

/-! ### setX -/

@[simp] theorem setX_a (s : State) (v : Byte) : (s.setX v).a = s.a := rfl
@[simp] theorem setX_x (s : State) (v : Byte) : (s.setX v).x = v := rfl
@[simp] theorem setX_y (s : State) (v : Byte) : (s.setX v).y = s.y := rfl
@[simp] theorem setX_sp (s : State) (v : Byte) : (s.setX v).sp = s.sp := rfl
@[simp] theorem setX_pc (s : State) (v : Byte) : (s.setX v).pc = s.pc := rfl
@[simp] theorem setX_status (s : State) (v : Byte) : (s.setX v).status = s.status := rfl
@[simp] theorem setX_run (s : State) (v : Byte) : (s.setX v).run = s.run := rfl
@[simp] theorem setX_mem (s : State) (v : Byte) : (s.setX v).mem = s.mem := rfl
@[simp] theorem setX_pSeiSed (s : State) (v : Byte) : (s.setX v).pSeiSed = s.pSeiSed := rfl
@[simp] theorem setX_flag (s : State) (v : Byte) (g : Flag) : (s.setX v).flag g = s.flag g := rfl
@[simp] theorem setX_readByte (s : State) (v : Byte) (b : Word) : (s.setX v).readByte b = s.readByte b := rfl

/-! ### setY -/

@[simp] theorem setY_a (s : State) (v : Byte) : (s.setY v).a = s.a := rfl
@[simp] theorem setY_x (s : State) (v : Byte) : (s.setY v).x = s.x := rfl
@[simp] theorem setY_y (s : State) (v : Byte) : (s.setY v).y = v := rfl
@[simp] theorem setY_sp (s : State) (v : Byte) : (s.setY v).sp = s.sp := rfl
@[simp] theorem setY_pc (s : State) (v : Byte) : (s.setY v).pc = s.pc := rfl
@[simp] theorem setY_status (s : State) (v : Byte) : (s.setY v).status = s.status := rfl
@[simp] theorem setY_run (s : State) (v : Byte) : (s.setY v).run = s.run := rfl
@[simp] theorem setY_mem (s : State) (v : Byte) : (s.setY v).mem = s.mem := rfl
@[simp] theorem setY_pSeiSed (s : State) (v : Byte) : (s.setY v).pSeiSed = s.pSeiSed := rfl
@[simp] theorem setY_flag (s : State) (v : Byte) (g : Flag) : (s.setY v).flag g = s.flag g := rfl
@[simp] theorem setY_readByte (s : State) (v : Byte) (b : Word) : (s.setY v).readByte b = s.readByte b := rfl

/-! ### setSP -/

@[simp] theorem setSP_a (s : State) (v : Byte) : (s.setSP v).a = s.a := rfl
@[simp] theorem setSP_x (s : State) (v : Byte) : (s.setSP v).x = s.x := rfl
@[simp] theorem setSP_y (s : State) (v : Byte) : (s.setSP v).y = s.y := rfl
@[simp] theorem setSP_sp (s : State) (v : Byte) : (s.setSP v).sp = v := rfl
@[simp] theorem setSP_pc (s : State) (v : Byte) : (s.setSP v).pc = s.pc := rfl
@[simp] theorem setSP_status (s : State) (v : Byte) : (s.setSP v).status = s.status := rfl
@[simp] theorem setSP_run (s : State) (v : Byte) : (s.setSP v).run = s.run := rfl
@[simp] theorem setSP_mem (s : State) (v : Byte) : (s.setSP v).mem = s.mem := rfl
@[simp] theorem setSP_pSeiSed (s : State) (v : Byte) : (s.setSP v).pSeiSed = s.pSeiSed := rfl
@[simp] theorem setSP_flag (s : State) (v : Byte) (g : Flag) : (s.setSP v).flag g = s.flag g := rfl
@[simp] theorem setSP_readByte (s : State) (v : Byte) (b : Word) : (s.setSP v).readByte b = s.readByte b := rfl

/-! ### setStatus -/

@[simp] theorem setStatus_a (s : State) (v : Byte) : (s.setStatus v).a = s.a := rfl
@[simp] theorem setStatus_x (s : State) (v : Byte) : (s.setStatus v).x = s.x := rfl
@[simp] theorem setStatus_y (s : State) (v : Byte) : (s.setStatus v).y = s.y := rfl
@[simp] theorem setStatus_sp (s : State) (v : Byte) : (s.setStatus v).sp = s.sp := rfl
@[simp] theorem setStatus_pc (s : State) (v : Byte) : (s.setStatus v).pc = s.pc := rfl
@[simp] theorem setStatus_status (s : State) (v : Byte) : (s.setStatus v).status = v := rfl
@[simp] theorem setStatus_run (s : State) (v : Byte) : (s.setStatus v).run = s.run := rfl
@[simp] theorem setStatus_mem (s : State) (v : Byte) : (s.setStatus v).mem = s.mem := rfl
@[simp] theorem setStatus_pSeiSed (s : State) (v : Byte) : (s.setStatus v).pSeiSed = s.pSeiSed := rfl
@[simp] theorem setStatus_readByte (s : State) (v : Byte) (b : Word) : (s.setStatus v).readByte b = s.readByte b := rfl
@[simp] theorem setStatus_reg (s : State) (v : Byte) (r : Reg) : (s.setStatus v).reg r = s.reg r := rfl

/-! ### setPC -/

@[simp] theorem setPC_a (s : State) (target : Word) : (s.setPC target).a = s.a := rfl
@[simp] theorem setPC_x (s : State) (target : Word) : (s.setPC target).x = s.x := rfl
@[simp] theorem setPC_y (s : State) (target : Word) : (s.setPC target).y = s.y := rfl
@[simp] theorem setPC_sp (s : State) (target : Word) : (s.setPC target).sp = s.sp := rfl
@[simp] theorem setPC_pc (s : State) (target : Word) : (s.setPC target).pc = target := rfl
@[simp] theorem setPC_status (s : State) (target : Word) : (s.setPC target).status = s.status := rfl
@[simp] theorem setPC_run (s : State) (target : Word) : (s.setPC target).run = s.run := rfl
@[simp] theorem setPC_mem (s : State) (target : Word) : (s.setPC target).mem = s.mem := rfl
@[simp] theorem setPC_pSeiSed (s : State) (target : Word) : (s.setPC target).pSeiSed = s.pSeiSed := rfl
@[simp] theorem setPC_flag (s : State) (target : Word) (g : Flag) : (s.setPC target).flag g = s.flag g := rfl
@[simp] theorem setPC_readByte (s : State) (target : Word) (b : Word) : (s.setPC target).readByte b = s.readByte b := rfl
@[simp] theorem setPC_reg (s : State) (target : Word) (r : Reg) : (s.setPC target).reg r = s.reg r := rfl

/-! ### writeByte -/

@[simp] theorem writeByte_a (s : State) (addr : Word) (v : Byte) : (s.writeByte addr v).a = s.a := rfl
@[simp] theorem writeByte_x (s : State) (addr : Word) (v : Byte) : (s.writeByte addr v).x = s.x := rfl
@[simp] theorem writeByte_y (s : State) (addr : Word) (v : Byte) : (s.writeByte addr v).y = s.y := rfl
@[simp] theorem writeByte_sp (s : State) (addr : Word) (v : Byte) : (s.writeByte addr v).sp = s.sp := rfl
@[simp] theorem writeByte_pc (s : State) (addr : Word) (v : Byte) : (s.writeByte addr v).pc = s.pc := rfl
@[simp] theorem writeByte_status (s : State) (addr : Word) (v : Byte) : (s.writeByte addr v).status = s.status := rfl
@[simp] theorem writeByte_run (s : State) (addr : Word) (v : Byte) : (s.writeByte addr v).run = s.run := rfl
@[simp] theorem writeByte_mem (s : State) (addr : Word) (v : Byte) : (s.writeByte addr v).mem = Memory.set s.mem addr.toNat v := rfl
@[simp] theorem writeByte_pSeiSed (s : State) (addr : Word) (v : Byte) : (s.writeByte addr v).pSeiSed = s.pSeiSed := rfl
@[simp] theorem writeByte_flag (s : State) (addr : Word) (v : Byte) (g : Flag) : (s.writeByte addr v).flag g = s.flag g := rfl
@[simp] theorem writeByte_reg (s : State) (addr : Word) (v : Byte) (r : Reg) : (s.writeByte addr v).reg r = s.reg r := rfl

/-! ### setFlag -/

@[simp] theorem setFlag_a (s : State) (f : Flag) (on : Bool) : (s.setFlag f on).a = s.a := rfl
@[simp] theorem setFlag_x (s : State) (f : Flag) (on : Bool) : (s.setFlag f on).x = s.x := rfl
@[simp] theorem setFlag_y (s : State) (f : Flag) (on : Bool) : (s.setFlag f on).y = s.y := rfl
@[simp] theorem setFlag_sp (s : State) (f : Flag) (on : Bool) : (s.setFlag f on).sp = s.sp := rfl
@[simp] theorem setFlag_pc (s : State) (f : Flag) (on : Bool) : (s.setFlag f on).pc = s.pc := rfl
@[simp] theorem setFlag_status (s : State) (f : Flag) (on : Bool) : (s.setFlag f on).status = putFlag f on s.status := rfl
@[simp] theorem setFlag_run (s : State) (f : Flag) (on : Bool) : (s.setFlag f on).run = s.run := rfl
@[simp] theorem setFlag_mem (s : State) (f : Flag) (on : Bool) : (s.setFlag f on).mem = s.mem := rfl
@[simp] theorem setFlag_pSeiSed (s : State) (f : Flag) (on : Bool) : (s.setFlag f on).pSeiSed = s.pSeiSed := rfl
@[simp] theorem setFlag_readByte (s : State) (f : Flag) (on : Bool) (b : Word) : (s.setFlag f on).readByte b = s.readByte b := rfl
@[simp] theorem setFlag_reg (s : State) (f : Flag) (on : Bool) (r : Reg) : (s.setFlag f on).reg r = s.reg r := rfl

/-! ### setZN -/

@[simp] theorem setZN_a (s : State) (v : Byte) : (s.setZN v).a = s.a := rfl
@[simp] theorem setZN_x (s : State) (v : Byte) : (s.setZN v).x = s.x := rfl
@[simp] theorem setZN_y (s : State) (v : Byte) : (s.setZN v).y = s.y := rfl
@[simp] theorem setZN_sp (s : State) (v : Byte) : (s.setZN v).sp = s.sp := rfl
@[simp] theorem setZN_pc (s : State) (v : Byte) : (s.setZN v).pc = s.pc := rfl
@[simp] theorem setZN_status (s : State) (v : Byte) : (s.setZN v).status = putFlag .N v.msb (putFlag .Z (v == 0) s.status) := rfl
@[simp] theorem setZN_run (s : State) (v : Byte) : (s.setZN v).run = s.run := rfl
@[simp] theorem setZN_mem (s : State) (v : Byte) : (s.setZN v).mem = s.mem := rfl
@[simp] theorem setZN_pSeiSed (s : State) (v : Byte) : (s.setZN v).pSeiSed = s.pSeiSed := rfl
@[simp] theorem setZN_readByte (s : State) (v : Byte) (b : Word) : (s.setZN v).readByte b = s.readByte b := rfl
@[simp] theorem setZN_reg (s : State) (v : Byte) (r : Reg) : (s.setZN v).reg r = s.reg r := rfl

/-! ### push -/

@[simp] theorem push_a (s : State) (v : Byte) : (s.push v).a = s.a := rfl
@[simp] theorem push_x (s : State) (v : Byte) : (s.push v).x = s.x := rfl
@[simp] theorem push_y (s : State) (v : Byte) : (s.push v).y = s.y := rfl
@[simp] theorem push_sp (s : State) (v : Byte) : (s.push v).sp = s.sp - 1 := rfl
@[simp] theorem push_pc (s : State) (v : Byte) : (s.push v).pc = s.pc := rfl
@[simp] theorem push_status (s : State) (v : Byte) : (s.push v).status = s.status := rfl
@[simp] theorem push_run (s : State) (v : Byte) : (s.push v).run = s.run := rfl
@[simp] theorem push_mem (s : State) (v : Byte) : (s.push v).mem = Memory.set s.mem (stackSlot s.sp).toNat v := rfl
@[simp] theorem push_pSeiSed (s : State) (v : Byte) : (s.push v).pSeiSed = s.pSeiSed := rfl
@[simp] theorem push_flag (s : State) (v : Byte) (g : Flag) : (s.push v).flag g = s.flag g := rfl

/-! ### afterPull -/

@[simp] theorem afterPull_a (s : State) : s.afterPull.a = s.a := rfl
@[simp] theorem afterPull_x (s : State) : s.afterPull.x = s.x := rfl
@[simp] theorem afterPull_y (s : State) : s.afterPull.y = s.y := rfl
@[simp] theorem afterPull_sp (s : State) : s.afterPull.sp = s.sp + 1 := rfl
@[simp] theorem afterPull_pc (s : State) : s.afterPull.pc = s.pc := rfl
@[simp] theorem afterPull_status (s : State) : s.afterPull.status = s.status := rfl
@[simp] theorem afterPull_run (s : State) : s.afterPull.run = s.run := rfl
@[simp] theorem afterPull_mem (s : State) : s.afterPull.mem = s.mem := rfl
@[simp] theorem afterPull_pSeiSed (s : State) : s.afterPull.pSeiSed = s.pSeiSed := rfl
@[simp] theorem afterPull_flag (s : State) (g : Flag) : s.afterPull.flag g = s.flag g := rfl
@[simp] theorem afterPull_readByte (s : State) (b : Word) : s.afterPull.readByte b = s.readByte b := rfl

/-! ### advance -/

@[simp] theorem advance_a (s : State) (width : Nat) : (s.advance width).a = s.a := rfl
@[simp] theorem advance_x (s : State) (width : Nat) : (s.advance width).x = s.x := rfl
@[simp] theorem advance_y (s : State) (width : Nat) : (s.advance width).y = s.y := rfl
@[simp] theorem advance_sp (s : State) (width : Nat) : (s.advance width).sp = s.sp := rfl
@[simp] theorem advance_pc (s : State) (width : Nat) : (s.advance width).pc = s.pc + BitVec.ofNat 16 width := rfl
@[simp] theorem advance_status (s : State) (width : Nat) : (s.advance width).status = s.status := rfl
@[simp] theorem advance_run (s : State) (width : Nat) : (s.advance width).run = s.run := rfl
@[simp] theorem advance_mem (s : State) (width : Nat) : (s.advance width).mem = s.mem := rfl
@[simp] theorem advance_pSeiSed (s : State) (width : Nat) : (s.advance width).pSeiSed = s.pSeiSed := rfl
@[simp] theorem advance_flag (s : State) (width : Nat) (g : Flag) : (s.advance width).flag g = s.flag g := rfl
@[simp] theorem advance_readByte (s : State) (width : Nat) (b : Word) : (s.advance width).readByte b = s.readByte b := rfl
@[simp] theorem advance_reg (s : State) (width : Nat) (r : Reg) : (s.advance width).reg r = s.reg r := rfl

/-! ### pastOpcode -/

@[simp] theorem pastOpcode_a (s : State) : s.pastOpcode.a = s.a := rfl
@[simp] theorem pastOpcode_x (s : State) : s.pastOpcode.x = s.x := rfl
@[simp] theorem pastOpcode_y (s : State) : s.pastOpcode.y = s.y := rfl
@[simp] theorem pastOpcode_sp (s : State) : s.pastOpcode.sp = s.sp := rfl
@[simp] theorem pastOpcode_pc (s : State) : s.pastOpcode.pc = s.pc + 1 := rfl
@[simp] theorem pastOpcode_status (s : State) : s.pastOpcode.status = s.status := rfl
@[simp] theorem pastOpcode_run (s : State) : s.pastOpcode.run = s.run := rfl
@[simp] theorem pastOpcode_mem (s : State) : s.pastOpcode.mem = s.mem := rfl
@[simp] theorem pastOpcode_pSeiSed (s : State) : s.pastOpcode.pSeiSed = s.pSeiSed := rfl
@[simp] theorem pastOpcode_flag (s : State) (g : Flag) : s.pastOpcode.flag g = s.flag g := rfl
@[simp] theorem pastOpcode_readByte (s : State) (b : Word) : s.pastOpcode.readByte b = s.readByte b := rfl
@[simp] theorem pastOpcode_reg (s : State) (r : Reg) : s.pastOpcode.reg r = s.reg r := rfl

/-! ### raise -/

@[simp] theorem raise_a (s : State) (record : FaultRecord) : (s.raise record).a = s.a := rfl
@[simp] theorem raise_x (s : State) (record : FaultRecord) : (s.raise record).x = s.x := rfl
@[simp] theorem raise_y (s : State) (record : FaultRecord) : (s.raise record).y = s.y := rfl
@[simp] theorem raise_sp (s : State) (record : FaultRecord) : (s.raise record).sp = s.sp := rfl
@[simp] theorem raise_pc (s : State) (record : FaultRecord) : (s.raise record).pc = s.pc := rfl
@[simp] theorem raise_status (s : State) (record : FaultRecord) : (s.raise record).status = s.status := rfl
@[simp] theorem raise_run (s : State) (record : FaultRecord) : (s.raise record).run = .faulted record := rfl
@[simp] theorem raise_mem (s : State) (record : FaultRecord) : (s.raise record).mem = s.mem := rfl
@[simp] theorem raise_pSeiSed (s : State) (record : FaultRecord) : (s.raise record).pSeiSed = s.pSeiSed := rfl
@[simp] theorem raise_flag (s : State) (record : FaultRecord) (g : Flag) : (s.raise record).flag g = s.flag g := rfl
@[simp] theorem raise_readByte (s : State) (record : FaultRecord) (b : Word) : (s.raise record).readByte b = s.readByte b := rfl
@[simp] theorem raise_reg (s : State) (record : FaultRecord) (r : Reg) : (s.raise record).reg r = s.reg r := rfl

/-! ### halt -/

@[simp] theorem halt_a (s : State) : s.halt.a = s.a := rfl
@[simp] theorem halt_x (s : State) : s.halt.x = s.x := rfl
@[simp] theorem halt_y (s : State) : s.halt.y = s.y := rfl
@[simp] theorem halt_sp (s : State) : s.halt.sp = s.sp := rfl
@[simp] theorem halt_pc (s : State) : s.halt.pc = s.pc := rfl
@[simp] theorem halt_status (s : State) : s.halt.status = s.status := rfl
@[simp] theorem halt_run (s : State) : s.halt.run = .halted := rfl
@[simp] theorem halt_mem (s : State) : s.halt.mem = s.mem := rfl
@[simp] theorem halt_pSeiSed (s : State) : s.halt.pSeiSed = s.pSeiSed := rfl
@[simp] theorem halt_flag (s : State) (g : Flag) : s.halt.flag g = s.flag g := rfl
@[simp] theorem halt_readByte (s : State) (b : Word) : s.halt.readByte b = s.readByte b := rfl
@[simp] theorem halt_reg (s : State) (r : Reg) : s.halt.reg r = s.reg r := rfl

/-! ### resetOp -/

@[simp] theorem resetOp_a (s : State) : s.resetOp.a = 0x00 := rfl
@[simp] theorem resetOp_x (s : State) : s.resetOp.x = 0x00 := rfl
@[simp] theorem resetOp_y (s : State) : s.resetOp.y = 0x00 := rfl
@[simp] theorem resetOp_sp (s : State) : s.resetOp.sp = Config.stackReset := rfl
@[simp] theorem resetOp_pc (s : State) : s.resetOp.pc = s.readWord Config.resetVector := rfl
@[simp] theorem resetOp_status (s : State) : s.resetOp.status = 0x00 := rfl
@[simp] theorem resetOp_run (s : State) : s.resetOp.run = .running := rfl
@[simp] theorem resetOp_mem (s : State) : s.resetOp.mem = s.mem := rfl
@[simp] theorem resetOp_pSeiSed (s : State) : s.resetOp.pSeiSed = s.pSeiSed := rfl
@[simp] theorem resetOp_readByte (s : State) (b : Word) : s.resetOp.readByte b = s.readByte b := rfl

/-! ### Named registers -/

@[simp] theorem reg_A (s : State) : s.reg .A = s.a := rfl
@[simp] theorem reg_X (s : State) : s.reg .X = s.x := rfl
@[simp] theorem reg_Y (s : State) : s.reg .Y = s.y := rfl
@[simp] theorem reg_SP (s : State) : s.reg .SP = s.sp := rfl

@[simp] theorem setStatus_flag_eq (s : State) (v : Byte) (g : Flag) : (s.setStatus v).flag g = getFlag g v := rfl

/-- Two states with the same fields are the same state. -/
theorem ext_fields {s t : State} (ha : s.a = t.a) (hx : s.x = t.x) (hy : s.y = t.y) (hsp : s.sp = t.sp) (hpc : s.pc = t.pc)
    (hst : s.status = t.status) (hrun : s.run = t.run) (hmem : s.mem = t.mem) (hp : s.pSeiSed = t.pSeiSed) : s = t := by
  cases s; cases t; simp_all

end Sys2Proof.Machine.State
end

