-- ==== Sys2Proof/Laws/Memory.lean ====
section
/-! SUPPORT. The laws of the memory array: a read after a write, that every memory operation keeps the canonical form, and
that equal memories are equal lists. The read laws hold of every list, canonical or not. -/

namespace Sys2Proof.Machine

namespace Memory

@[simp] theorem get_nil (a : Nat) : Memory.get [] a = unlisted := rfl

theorem get_cons (k : Nat) (v : Byte) (m : Memory) (a : Nat) :
    Memory.get ((k, v) :: m) a = if a = k then v else Memory.get m a := rfl

theorem get_insert (m : Memory) (a b : Nat) (v : Byte) :
    Memory.get (Memory.insert m a v) b = if b = a then v else Memory.get m b := by
  induction m with
  | nil => rfl
  | cons c rest ih =>
    obtain ⟨k, w⟩ := c
    unfold Memory.insert
    by_cases h1 : a < k
    · rw [if_pos h1, get_cons]
    · rw [if_neg h1]
      by_cases h2 : a = k
      · subst h2
        rw [if_pos rfl, get_cons, get_cons]
        by_cases h3 : b = a <;> simp [h3]
      · rw [if_neg h2, get_cons, get_cons, ih]
        by_cases h3 : b = k
        · subst h3; simp [Ne.symm h2]
        · simp [h3]

theorem get_erase (m : Memory) (a b : Nat) :
    Memory.get (Memory.erase m a) b = if b = a then unlisted else Memory.get m b := by
  induction m with
  | nil => simp [Memory.erase]
  | cons c rest ih =>
    obtain ⟨k, w⟩ := c
    unfold Memory.erase at ih ⊢
    by_cases hk : k = a
    · subst hk
      simp only [List.filter, bne_self_eq_false, ih, get_cons]
      by_cases h3 : b = k <;> simp [h3]
    · have hne : (k != a) = true := by simpa using hk
      simp only [List.filter, hne, get_cons, ih]
      by_cases h3 : b = k
      · subst h3; simp [hk]
      · simp [h3]

/-- A read after a write: the written byte at the written address, every other byte as before (R34, R35). -/
theorem get_set (m : Memory) (a b : Nat) (v : Byte) :
    Memory.get (Memory.set m a v) b = if b = a then v else Memory.get m b := by
  unfold Memory.set
  split_ifs with h1 h2 h2
  · rw [get_erase, if_pos h2, h1]
  · rw [get_erase, if_neg h2]
  · rw [get_insert, if_pos h2]
  · rw [get_insert, if_neg h2]

/-! ### The canonical form -/

theorem wf_nil : Memory.wf [] := by simp [Memory.wf]

theorem wf_erase {m : Memory} (h : Memory.wf m) (a : Nat) : Memory.wf (Memory.erase m a) :=
  ⟨h.1.sublist List.filter_sublist, fun c hc => h.2 c (List.mem_filter.mp hc).1⟩

theorem mem_insert {m : Memory} {a : Nat} {v : Byte} {c : Host.Cell} (h : c ∈ Memory.insert m a v) :
    c = (a, v) ∨ c ∈ m := by
  induction m with
  | nil => simpa [Memory.insert] using h
  | cons d rest ih =>
    obtain ⟨k, w⟩ := d
    unfold Memory.insert at h
    split_ifs at h with h1 h2
    · simpa using h
    · simp only [List.mem_cons] at h ⊢; tauto
    · simp only [List.mem_cons] at h ⊢
      rcases h with h | h
      · exact .inr (.inl h)
      · rcases ih h with h | h
        · exact .inl h
        · exact .inr (.inr h)

theorem wf_insert {m : Memory} (h : Memory.wf m) {a : Nat} (ha : a < 65536) {v : Byte} (hv : v ≠ unlisted) :
    Memory.wf (Memory.insert m a v) := by
  refine ⟨?_, fun c hc => (mem_insert hc).elim (fun e => by subst e; exact ⟨ha, hv⟩) (h.2 c)⟩
  have hs := h.1
  clear h
  induction m with
  | nil => simp [Memory.insert]
  | cons d rest ih =>
    obtain ⟨k, w⟩ := d
    rw [List.pairwise_cons] at hs
    unfold Memory.insert
    split_ifs with h1 h2
    · refine List.pairwise_cons.mpr ⟨fun c hc => ?_, List.pairwise_cons.mpr hs⟩
      rcases List.mem_cons.mp hc with rfl | hc
      · exact h1
      · exact lt_trans h1 (hs.1 c hc)
    · subst h2; exact List.pairwise_cons.mpr hs
    · refine List.pairwise_cons.mpr ⟨fun c hc => ?_, ih hs.2⟩
      rcases mem_insert hc with rfl | hc
      · simp only; omega
      · exact hs.1 c hc

/-- Every store keeps the canonical form. -/
theorem wf_set {m : Memory} (h : Memory.wf m) {a : Nat} (ha : a < 65536) (v : Byte) : Memory.wf (Memory.set m a v) := by
  unfold Memory.set
  split_ifs with hv
  · exact wf_erase h a
  · exact wf_insert h ha hv

end Memory

namespace State

/-- A read after a write through the 16-bit accessors (R34, R35). -/
@[simp] theorem writeByte_readByte (s : State) (addr b : Word) (v : Byte) :
    (s.writeByte addr v).readByte b = if b = addr then v else s.readByte b := by
  simp only [readByte, writeByte_mem, Memory.get_set, BitVec.toNat_inj]

@[simp] theorem push_readByte (s : State) (v : Byte) (b : Word) :
    (s.push v).readByte b = if b = stackSlot s.sp then v else s.readByte b :=
  writeByte_readByte s _ b v

/-- `writeByte` keeps the canonical form. -/
theorem wf_writeByte {s : State} (h : Memory.wf s.mem) (addr : Word) (v : Byte) : Memory.wf (s.writeByte addr v).mem :=
  Memory.wf_set h addr.isLt v

/-- `writeWord` keeps the canonical form. -/
theorem wf_writeWord {s : State} (h : Memory.wf s.mem) (addr w : Word) : Memory.wf (s.writeWord addr w).mem :=
  wf_writeByte (wf_writeByte h _ _) _ _

/-- `Push` keeps the canonical form. -/
theorem wf_push {s : State} (h : Memory.wf s.mem) (v : Byte) : Memory.wf (s.push v).mem := wf_writeByte h _ v

/-- `Push16` keeps the canonical form. -/
theorem wf_push16 {s : State} (h : Memory.wf s.mem) (w : Word) : Memory.wf (s.push16 w).mem := wf_push (wf_push h _) _

/-- Storing a list of bytes keeps the canonical form. -/
theorem wf_writeBytes {s : State} (h : Memory.wf s.mem) (addr : Word) (bytes : List Byte) :
    Memory.wf (s.writeBytes addr bytes).mem := by
  induction bytes generalizing s addr with
  | nil => exact h
  | cons b rest ih => exact ih (wf_writeByte h addr b) (addr + 1)

/-- Memory at reset has the canonical form. -/
theorem wf_reset : Memory.wf State.reset.mem := Memory.wf_nil

end State

end Sys2Proof.Machine
end

