-- ==== Sys2Proof/Laws/Flags.lean ====
section
/-! SUPPORT. The laws of the status byte: what reading a flag gives after writing one, and what `setZN` and the two
masks of PHP and PLP do to each flag. -/

namespace Sys2Proof.Machine

/-- The mask of a flag is the byte with its bit set (R20). -/
theorem Flag.mask_eq (f : Flag) : f.mask = 1#8 <<< f.bit := by cases f <;> rfl

theorem Flag.bit_lt (f : Flag) : f.bit < 8 := by cases f <;> decide

theorem Flag.bit_inj {f g : Flag} : f.bit = g.bit ↔ f = g := by cases f <;> cases g <;> decide

theorem Flag.mask_bit (f g : Flag) : f.mask.getLsbD g.bit = decide (g = f) := by cases f <;> cases g <;> decide

/-- Reading one bit of a status byte after writing one. -/
theorem getFlag_putFlag (f g : Flag) (on : Bool) (p : Byte) :
    getFlag g (putFlag f on p) = if g = f then on else getFlag g p := by
  unfold getFlag putFlag
  by_cases h : g = f <;> cases on <;>
    simp only [Bool.false_eq_true, if_true, if_false, BitVec.getLsbD_or, BitVec.getLsbD_and, BitVec.getLsbD_not,
      Flag.mask_bit, h, g.bit_lt] <;> simp

/-- Status bytes with the same eight flags are the same byte. -/
theorem status_ext {p q : Byte} (h : ∀ f : Flag, getFlag f p = getFlag f q) : p = q := by
  apply BitVec.eq_of_getLsbD_eq
  intro i hi
  have hC := h .C; have hZ := h .Z; have hI := h .I; have hD := h .D
  have hB := h .B; have hB2 := h .B2; have hV := h .V; have hN := h .N
  simp only [getFlag, Flag.bit] at hC hZ hI hD hB hB2 hV hN
  match i, hi with
  | 0, _ => exact hC
  | 1, _ => exact hZ
  | 2, _ => exact hI
  | 3, _ => exact hD
  | 4, _ => exact hB
  | 5, _ => exact hB2
  | 6, _ => exact hV
  | 7, _ => exact hN

theorem breakMask_bit (f : Flag) : breakMask.getLsbD f.bit = decide (f = .B ∨ f = .B2) := by cases f <;> decide

/-- PHP's mask forces Break and Break2 set and keeps the other flags (R128). -/
theorem getFlag_or_breakMask (f : Flag) (p : Byte) :
    getFlag f (p ||| breakMask) = (getFlag f p || decide (f = .B ∨ f = .B2)) := by
  simp only [getFlag, BitVec.getLsbD_or, breakMask_bit]

/-- PLP's mask clears Break and Break2 and keeps the other flags (R129). -/
theorem getFlag_and_breakMask (f : Flag) (p : Byte) :
    getFlag f (p &&& ~~~breakMask) = (getFlag f p && !decide (f = .B ∨ f = .B2)) := by
  simp only [getFlag, BitVec.getLsbD_and, BitVec.getLsbD_not, breakMask_bit, f.bit_lt, decide_true, Bool.true_and]

namespace State

@[simp] theorem setFlag_flag (s : State) (f g : Flag) (on : Bool) :
    (s.setFlag f on).flag g = if g = f then on else s.flag g :=
  getFlag_putFlag f g on s.status

@[simp] theorem setZN_flag (s : State) (v : Byte) (g : Flag) :
    (s.setZN v).flag g = if g = .N then v.msb else if g = .Z then v == 0 else s.flag g := by
  simp [setZN]

end State

end Sys2Proof.Machine
end

