-- ==== Sys2Proof/Laws/Effects.lean ====
section
/-! SUPPORT. What each shared operation and each instruction's effect can do, said once: the registers and flags it may write
(`Keeps`), what it does to memory, and what a step can be. -/

namespace Sys2Proof.Machine

/-! ### Frames compose -/

theorem Keeps.refl (regs : List Reg) (flags : List Flag) (s : State) : Keeps regs flags s s :=
  ⟨fun _ _ => rfl, fun _ _ => rfl, rfl, rfl⟩

/-- Frames chain when both steps stay within the same registers and flags. -/
theorem Keeps.trans {regs : List Reg} {flags : List Flag} {s t u : State} (h : Keeps regs flags s t)
    (k : Keeps regs flags t u) : Keeps regs flags s u :=
  ⟨fun r hr => (k.1 r hr).trans (h.1 r hr), fun f hf => (k.2.1 f hf).trans (h.2.1 f hf), k.2.2.1.trans h.2.2.1,
    k.2.2.2.trans h.2.2.2⟩

/-- A frame may be weakened to more registers and flags. -/
theorem Keeps.mono {regs regs' : List Reg} {flags flags' : List Flag} {s t : State} (h : Keeps regs flags s t)
    (hr : regs ⊆ regs') (hf : flags ⊆ flags') : Keeps regs' flags' s t :=
  ⟨fun r h' => h.1 r fun m => h' (hr m), fun f h' => h.2.1 f fun m => h' (hf m), h.2.2⟩

theorem keeps_setA (s : State) (v : Byte) : Keeps [.A] [] s (s.setA v) :=
  ⟨fun r hr => by cases r <;> first | rfl | simp at hr, fun _ _ => rfl, rfl, rfl⟩

theorem keeps_setX (s : State) (v : Byte) : Keeps [.X] [] s (s.setX v) :=
  ⟨fun r hr => by cases r <;> first | rfl | simp at hr, fun _ _ => rfl, rfl, rfl⟩

theorem keeps_setY (s : State) (v : Byte) : Keeps [.Y] [] s (s.setY v) :=
  ⟨fun r hr => by cases r <;> first | rfl | simp at hr, fun _ _ => rfl, rfl, rfl⟩

theorem keeps_setSP (s : State) (v : Byte) : Keeps [.SP] [] s (s.setSP v) :=
  ⟨fun r hr => by cases r <;> first | rfl | simp at hr, fun _ _ => rfl, rfl, rfl⟩

theorem keeps_setFlag (s : State) (f : Flag) (on : Bool) : Keeps [] [f] s (s.setFlag f on) :=
  ⟨fun _ _ => rfl, fun g hg => by simp_all, rfl, rfl⟩

theorem keeps_setZN (s : State) (v : Byte) : Keeps [] [.Z, .N] s (s.setZN v) :=
  ⟨fun _ _ => rfl, fun g hg => by simp_all, rfl, rfl⟩

theorem keeps_writeByte (s : State) (addr : Word) (v : Byte) : Keeps [] [] s (s.writeByte addr v) :=
  ⟨fun _ _ => rfl, fun _ _ => rfl, rfl, rfl⟩

theorem keeps_setPC (s : State) (target : Word) : Keeps [] [] s (s.setPC target) :=
  ⟨fun _ _ => rfl, fun _ _ => rfl, rfl, rfl⟩

theorem keeps_push (s : State) (v : Byte) : Keeps [.SP] [] s (s.push v) :=
  ((keeps_writeByte s _ v).mono (by simp) (by simp)).trans (keeps_setSP _ _)

theorem keeps_afterPull (s : State) : Keeps [.SP] [] s s.afterPull := keeps_setSP s _

/-- The byte and the flags `setZN` leaves are those of the value (R11). -/
theorem zeroNegativeOf_setZN (s : State) (v : Byte) : ZeroNegativeOf v (s.setZN v) := by
  simp only [ZeroNegativeOf, State.setZN_flag]
  refine ⟨?_, ?_⟩
  · simp [beq_eq_decide]
  · simp [BitVec.msb_eq_decide]

/-! ### The effects of the instructions: the registers and flags each may write -/

theorem keeps_loadA (m : Byte) (s : State) : Keeps [.A] [.Z, .N] s (loadA m s) :=
  ((keeps_setA s m).mono (by simp) (by simp)).trans ((keeps_setZN _ m).mono (by simp) (by simp))

theorem keeps_loadX (m : Byte) (s : State) : Keeps [.X] [.Z, .N] s (loadX m s) :=
  ((keeps_setX s m).mono (by simp) (by simp)).trans ((keeps_setZN _ m).mono (by simp) (by simp))

theorem keeps_loadY (m : Byte) (s : State) : Keeps [.Y] [.Z, .N] s (loadY m s) :=
  ((keeps_setY s m).mono (by simp) (by simp)).trans ((keeps_setZN _ m).mono (by simp) (by simp))

theorem keeps_incrementAt (ea : Word) (s : State) : Keeps [] [.Z, .N] s (incrementAt ea s) :=
  ((keeps_writeByte s ea _).mono (by simp) (by simp)).trans (keeps_setZN _ _)

theorem keeps_decrementAt (ea : Word) (s : State) : Keeps [] [.Z, .N] s (decrementAt ea s) :=
  ((keeps_writeByte s ea _).mono (by simp) (by simp)).trans (keeps_setZN _ _)

theorem keeps_shiftA (f : Byte → Bool → Byte × Bool) (s : State) : Keeps [.A] [.C, .Z, .N] s (shiftA f s) :=
  (((keeps_setA s _).mono (by simp) (by simp)).trans ((keeps_setFlag _ .C _).mono (by simp) (by simp))).trans
    ((keeps_setZN _ _).mono (by simp) (by simp))

theorem keeps_shiftAt (f : Byte → Bool → Byte × Bool) (ea : Word) (s : State) :
    Keeps [] [.C, .Z, .N] s (shiftAt f ea s) :=
  (((keeps_writeByte s ea _).mono (by simp) (by simp)).trans ((keeps_setFlag _ .C _).mono (by simp) (by simp))).trans
    ((keeps_setZN _ _).mono (by simp) (by simp))

theorem keeps_addToA (m : Byte) (s : State) : Keeps [.A] [.C, .V, .Z, .N] s (addToA m s) :=
  ((((keeps_setFlag s .C _).mono (by simp) (by simp)).trans ((keeps_setFlag _ .V _).mono (by simp) (by simp))).trans
    ((keeps_setA _ _).mono (by simp) (by simp))).trans ((keeps_setZN _ _).mono (by simp) (by simp))

theorem keeps_compareBytes (reg m : Byte) (s : State) : Keeps [] [.C, .Z, .N] s (compareBytes reg m s) :=
  ((keeps_setFlag s .C _).mono (by simp) (by simp)).trans ((keeps_setZN _ _).mono (by simp) (by simp))

theorem keeps_bitTest (m : Byte) (s : State) : Keeps [] [.Z, .N, .V] s (bitTest m s) :=
  (((keeps_setFlag s .Z _).mono (by simp) (by simp)).trans ((keeps_setFlag _ .N _).mono (by simp) (by simp))).trans
    ((keeps_setFlag _ .V _).mono (by simp) (by simp))

theorem keeps_callTo (target : Word) (s : State) : Keeps [.SP] [] s (callTo target s) :=
  ((keeps_push s _).trans (keeps_push _ _)).trans ((keeps_setPC _ _).mono (by simp) (by simp))

theorem keeps_returnFromCall (s : State) : Keeps [.SP] [] s (returnFromCall s) :=
  ((keeps_afterPull s).trans (keeps_afterPull _)).trans ((keeps_setPC _ _).mono (by simp) (by simp))

theorem keeps_pullA (s : State) : Keeps [.A, .SP] [.Z, .N] s (pullA s) :=
  (((keeps_afterPull s).mono (by simp) (by simp)).trans ((keeps_setA _ _).mono (by simp) (by simp))).trans
    ((keeps_setZN _ _).mono (by simp) (by simp))

/-! ### The shapes of an instruction's access to its operand -/

/-- An instruction that reads its operand answers a next state: its effect on the operand byte, then the advance. -/
theorem reading_next (o : MemOperand) (f : Byte → State → State) (s : State) :
    reading o f s = .next ((f (operandByte o s) s).advance o.form.width) := rfl

/-- A storing instruction answers a next state: the byte at the effective address, then the advance. -/
theorem storing_next (o : MemOperand) (v : Byte) (s : State) :
    storing o v s = .next ((s.writeByte (effAddr o s) v).advance o.form.width) := rfl

/-- A read-modify-write instruction answers a next state: its effect at the effective address, then the advance. -/
theorem modifying_next (o : MemOperand) (f : Word → State → State) (s : State) :
    modifying o f s = .next ((f (effAddr o s) s).advance o.form.width) := rfl

/-- An implied instruction answers a next state: its effect. -/
theorem implied_next (f : State → State) (s : State) : implied f s = .next (f s) := rfl

/-! ### What a step can be -/

/-- A step that answers a next state is taken by a Running core, and either runs the fetched instruction or raises the fetch's
fault. -/
theorem step_cases {s t : State} (h : step s = .next t) :
    s.run = .running ∧
      ((∃ i, s.fetchInstr = .ok i ∧ exec i s.pastOpcode = .next t) ∨
        (∃ record, s.fetchInstr = .error record ∧ t = s.pastOpcode.raise record)) := by
  unfold step at h
  cases hr : s.run with
  | running =>
    refine ⟨rfl, ?_⟩
    simp only [hr] at h
    cases hf : s.fetchInstr with
    | ok i => exact .inl ⟨i, rfl, by simpa only [hf] using h⟩
    | error record =>
      simp only [hf, Host.Outcome.next.injEq] at h
      exact .inr ⟨record, rfl, h.symm⟩
  | halted => simp only [hr] at h; cases h
  | faulted record => simp only [hr] at h; cases h

/-- A fetch fails only with UnimplementedOpcode, of the byte at PC and its address (R143). -/
theorem fetchInstr_error {s : State} {record : FaultRecord} (h : s.fetchInstr = .error record) :
    record = .unimplementedOpcode (s.readByte s.pc) s.pc := by
  unfold State.fetchInstr at h
  split at h
  · cases h
  · cases h; rfl

end Sys2Proof.Machine
end

