-- ==== Sys2Proof/Laws/Meanings.lean ====
section
/-! SUPPORT. What the effects leave in the registers, flags and memory bytes they write, and, for every mnemonic with a memory
operand, the one meaning that all its forms are. -/

namespace Sys2Proof.Machine

/-! ### Memory after one write -/

/-- A state whose memory is that of one write reads the written byte back. -/
theorem readByte_of_written {s t : State} {addr : Word} {v : Byte} (h : t.mem = (s.writeByte addr v).mem) :
    t.readByte addr = v := by
  have e : t.readByte addr = (s.writeByte addr v).readByte addr := by simp only [State.readByte, h]
  rw [e, State.writeByte_readByte, if_pos rfl]

/-- A state whose memory is that of one write differs at no other address. -/
theorem memorySameOutside_of_written {s t : State} {addr : Word} {v : Byte} (h : t.mem = (s.writeByte addr v).mem) :
    MemorySameOutside [addr] s t := by
  intro a ha
  have e : t.readByte a = (s.writeByte addr v).readByte a := by simp only [State.readByte, h]
  rw [e, State.writeByte_readByte, if_neg (by simpa using ha)]

/-! ### Results of the effects -/

@[simp] theorem shiftA_a (f : Byte → Bool → Byte × Bool) (s : State) : (shiftA f s).a = (f s.a (s.flag .C)).1 := rfl

@[simp] theorem shiftA_flag_C (f : Byte → Bool → Byte × Bool) (s : State) :
    (shiftA f s).flag .C = (f s.a (s.flag .C)).2 := by
  simp [shiftA]

@[simp] theorem shiftAt_flag_C (f : Byte → Bool → Byte × Bool) (ea : Word) (s : State) :
    (shiftAt f ea s).flag .C = (f (s.readByte ea) (s.flag .C)).2 := by
  simp [shiftAt]

@[simp] theorem addToA_a (m : Byte) (s : State) : (addToA m s).a = sumByte s.a m (s.flag .C) := rfl

@[simp] theorem addToA_flag_C (m : Byte) (s : State) : (addToA m s).flag .C = carryOut s.a m (s.flag .C) := by
  simp [addToA]

@[simp] theorem addToA_flag_V (m : Byte) (s : State) :
    (addToA m s).flag .V = overflowOut s.a m (sumByte s.a m (s.flag .C)) := by
  simp [addToA]

@[simp] theorem compareBytes_flag_C (reg m : Byte) (s : State) :
    (compareBytes reg m s).flag .C = decide (m.toNat ≤ reg.toNat) := by
  simp [compareBytes]

/-- The masked sum, as a number. -/
theorem sumByte_toNat (a m : Byte) (c : Bool) : (sumByte a m c).toNat = (a.toNat + m.toNat + c.toNat) % 256 := by
  simp [sumByte, carrySum]

/-- The overflow test reads bit 7 of the three bytes: the operands agree and the result differs (R106). -/
theorem overflowOut_eq (a m r : Byte) :
    overflowOut a m r = (a.getLsbD 7 == m.getLsbD 7 && r.getLsbD 7 != a.getLsbD 7) := by
  have e : ∀ b : Byte, b.msb = b.getLsbD 7 := fun _ => rfl
  unfold overflowOut
  rw [e, BitVec.getLsbD_and, BitVec.getLsbD_xor, BitVec.getLsbD_xor]
  cases a.getLsbD 7 <;> cases m.getLsbD 7 <;> cases r.getLsbD 7 <;> rfl

/-! ### What `exec` answers, by mnemonic and operand: the case analysis for claims about every instruction -/

/-- The state after an effect on the operand byte and the advance. -/
def afterReading (f : Byte → State → State) (x : Operand) (s : State) : State :=
  match x with
  | .mem o => (f (operandByte o s) s).advance o.form.width
  | _ => s

/-- The state after an effect at the effective address and the advance. -/
def afterAt (f : Word → State → State) (x : Operand) (s : State) : State :=
  match x with
  | .mem o => (f (effAddr o s) s).advance o.form.width
  | _ => s

/-- The state after a shift or rotate, in the accumulator form or at the effective address. -/
def afterShift (f : Byte → Bool → Byte × Bool) (x : Operand) (s : State) : State :=
  match x with
  | .acc => shiftA f s
  | x => afterAt (shiftAt f) x s

/-- The state after a branch under a condition. -/
def afterBranch (cond : Bool) (x : Operand) (s : State) : State :=
  match x with
  | .rel b => branch cond b s
  | _ => s

/-- The state after a jump, to the operand word or through it. -/
def afterJump (x : Operand) (s : State) : State :=
  match x with
  | .jabs w => s.setPC w
  | .ind w => jumpThrough w s
  | _ => s

/-- The state after a call of the operand word. -/
def afterCall (x : Operand) (s : State) : State :=
  match x with
  | .jabs w => callTo w s
  | _ => s

/-- The state after the instruction of a mnemonic and an operand; of an operand the mnemonic does not have, the state itself. -/
def after (m : Mnemonic) (x : Operand) (s : State) : State :=
  match m with
  | .lda => afterReading loadA x s
  | .ldx => afterReading loadX x s
  | .ldy => afterReading loadY x s
  | .sta => afterAt (fun ea s => s.writeByte ea s.a) x s
  | .stx => afterAt (fun ea s => s.writeByte ea s.x) x s
  | .sty => afterAt (fun ea s => s.writeByte ea s.y) x s
  | .tax => loadX s.a s
  | .tay => loadY s.a s
  | .txa => loadA s.x s
  | .tya => loadA s.y s
  | .tsx => loadX s.sp s
  | .txs => transferXToSP s
  | .inx => incrementX s
  | .iny => incrementY s
  | .dex => decrementX s
  | .dey => decrementY s
  | .inc => afterAt incrementAt x s
  | .dec => afterAt decrementAt x s
  | .and => afterReading andA x s
  | .ora => afterReading orA x s
  | .eor => afterReading xorA x s
  | .asl => afterShift aslFn x s
  | .lsr => afterShift lsrFn x s
  | .rol => afterShift rolFn x s
  | .ror => afterShift rorFn x s
  | .adc => afterReading addToA x s
  | .sbc => afterReading subtractFromA x s
  | .cmp => afterReading (compareBytes s.a) x s
  | .cpx => afterReading (compareBytes s.x) x s
  | .cpy => afterReading (compareBytes s.y) x s
  | .bit => afterReading bitTest x s
  | .bcc => afterBranch (!s.flag .C) x s
  | .bcs => afterBranch (s.flag .C) x s
  | .beq => afterBranch (s.flag .Z) x s
  | .bne => afterBranch (!s.flag .Z) x s
  | .bmi => afterBranch (s.flag .N) x s
  | .bpl => afterBranch (!s.flag .N) x s
  | .bvc => afterBranch (!s.flag .V) x s
  | .bvs => afterBranch (s.flag .V) x s
  | .jmp => afterJump x s
  | .jsr => afterCall x s
  | .rts => returnFromCall s
  | .pha => pushA s
  | .pla => pullA s
  | .php => pushStatus s
  | .plp => pullStatus s
  | .sec => s.setFlag .C true
  | .clc => s.setFlag .C false
  | .cli => s.setFlag .I false
  | .cld => s.setFlag .D false
  | .clv => s.setFlag .V false
  | .nop => s
  | .brk => s.halt
  | .sei => s.setFlag .I true
  | .sed => s.setFlag .D true

/-- Every instruction answers a next state, which its mnemonic and its operand decide. -/
theorem exec_eq_after (i : Instr) (s : State) : exec i s = .next (after i.mnemonic i.operand s) := by
  cases i <;> rfl

/-! ### Every form of a mnemonic is that mnemonic's meaning over its operand -/

theorem exec_lda {i : Instr} {o : MemOperand} {s : State} (h : i.operand = .mem o) (hm : i.mnemonic = .lda) :
    exec i s = ldaOp o s := by
  cases i <;> first | (cases hm; done) | (cases h; done) | (cases h; rfl)

theorem exec_ldx {i : Instr} {o : MemOperand} {s : State} (h : i.operand = .mem o) (hm : i.mnemonic = .ldx) :
    exec i s = ldxOp o s := by
  cases i <;> first | (cases hm; done) | (cases h; done) | (cases h; rfl)

theorem exec_ldy {i : Instr} {o : MemOperand} {s : State} (h : i.operand = .mem o) (hm : i.mnemonic = .ldy) :
    exec i s = ldyOp o s := by
  cases i <;> first | (cases hm; done) | (cases h; done) | (cases h; rfl)

theorem exec_sta {i : Instr} {o : MemOperand} {s : State} (h : i.operand = .mem o) (hm : i.mnemonic = .sta) :
    exec i s = staOp o s := by
  cases i <;> first | (cases hm; done) | (cases h; done) | (cases h; rfl)

theorem exec_stx {i : Instr} {o : MemOperand} {s : State} (h : i.operand = .mem o) (hm : i.mnemonic = .stx) :
    exec i s = stxOp o s := by
  cases i <;> first | (cases hm; done) | (cases h; done) | (cases h; rfl)

theorem exec_sty {i : Instr} {o : MemOperand} {s : State} (h : i.operand = .mem o) (hm : i.mnemonic = .sty) :
    exec i s = styOp o s := by
  cases i <;> first | (cases hm; done) | (cases h; done) | (cases h; rfl)

theorem exec_inc {i : Instr} {o : MemOperand} {s : State} (h : i.operand = .mem o) (hm : i.mnemonic = .inc) :
    exec i s = incOp o s := by
  cases i <;> first | (cases hm; done) | (cases h; done) | (cases h; rfl)

theorem exec_dec {i : Instr} {o : MemOperand} {s : State} (h : i.operand = .mem o) (hm : i.mnemonic = .dec) :
    exec i s = decOp o s := by
  cases i <;> first | (cases hm; done) | (cases h; done) | (cases h; rfl)

theorem exec_and {i : Instr} {o : MemOperand} {s : State} (h : i.operand = .mem o) (hm : i.mnemonic = .and) :
    exec i s = andOp o s := by
  cases i <;> first | (cases hm; done) | (cases h; done) | (cases h; rfl)

theorem exec_ora {i : Instr} {o : MemOperand} {s : State} (h : i.operand = .mem o) (hm : i.mnemonic = .ora) :
    exec i s = oraOp o s := by
  cases i <;> first | (cases hm; done) | (cases h; done) | (cases h; rfl)

theorem exec_eor {i : Instr} {o : MemOperand} {s : State} (h : i.operand = .mem o) (hm : i.mnemonic = .eor) :
    exec i s = eorOp o s := by
  cases i <;> first | (cases hm; done) | (cases h; done) | (cases h; rfl)

theorem exec_asl {i : Instr} {o : MemOperand} {s : State} (h : i.operand = .mem o) (hm : i.mnemonic = .asl) :
    exec i s = aslOp o s := by
  cases i <;> first | (cases hm; done) | (cases h; done) | (cases h; rfl)

theorem exec_lsr {i : Instr} {o : MemOperand} {s : State} (h : i.operand = .mem o) (hm : i.mnemonic = .lsr) :
    exec i s = lsrOp o s := by
  cases i <;> first | (cases hm; done) | (cases h; done) | (cases h; rfl)

theorem exec_rol {i : Instr} {o : MemOperand} {s : State} (h : i.operand = .mem o) (hm : i.mnemonic = .rol) :
    exec i s = rolOp o s := by
  cases i <;> first | (cases hm; done) | (cases h; done) | (cases h; rfl)

theorem exec_ror {i : Instr} {o : MemOperand} {s : State} (h : i.operand = .mem o) (hm : i.mnemonic = .ror) :
    exec i s = rorOp o s := by
  cases i <;> first | (cases hm; done) | (cases h; done) | (cases h; rfl)

theorem exec_adc {i : Instr} {o : MemOperand} {s : State} (h : i.operand = .mem o) (hm : i.mnemonic = .adc) :
    exec i s = adcOp o s := by
  cases i <;> first | (cases hm; done) | (cases h; done) | (cases h; rfl)

theorem exec_sbc {i : Instr} {o : MemOperand} {s : State} (h : i.operand = .mem o) (hm : i.mnemonic = .sbc) :
    exec i s = sbcOp o s := by
  cases i <;> first | (cases hm; done) | (cases h; done) | (cases h; rfl)

theorem exec_cmp {i : Instr} {o : MemOperand} {s : State} (h : i.operand = .mem o) (hm : i.mnemonic = .cmp) :
    exec i s = cmpOp o s := by
  cases i <;> first | (cases hm; done) | (cases h; done) | (cases h; rfl)

theorem exec_cpx {i : Instr} {o : MemOperand} {s : State} (h : i.operand = .mem o) (hm : i.mnemonic = .cpx) :
    exec i s = cpxOp o s := by
  cases i <;> first | (cases hm; done) | (cases h; done) | (cases h; rfl)

theorem exec_cpy {i : Instr} {o : MemOperand} {s : State} (h : i.operand = .mem o) (hm : i.mnemonic = .cpy) :
    exec i s = cpyOp o s := by
  cases i <;> first | (cases hm; done) | (cases h; done) | (cases h; rfl)

theorem exec_bit {i : Instr} {o : MemOperand} {s : State} (h : i.operand = .mem o) (hm : i.mnemonic = .bit) :
    exec i s = bitOp o s := by
  cases i <;> first | (cases hm; done) | (cases h; done) | (cases h; rfl)

end Sys2Proof.Machine
end

