-- ==== Sys2Proof/Laws/PerInstr.lean ====
section
/-! SUPPORT. Per instruction: the opcode the encoder writes (from the map by mnemonic) is the grid's entry for its mnemonic
and form, and its bytes are as many as its format has. -/

namespace Sys2Proof.Laws.TableEntry

/-- The opcode grid has the instruction's own mnemonic and form at its opcode byte, and the instruction is one byte
longer than its operand width (R50, R56). -/
def Statement (i : Instr) : Prop :=
  Machine.table true i.opcode = some ⟨i.mnemonic, i.operand.form⟩ ∧ (encode i).length = i.width + 1

theorem ldaImm (b : Byte) : Statement (.ldaImm b) := ⟨show Machine.table true 0xA9 = _ from rfl, rfl⟩
theorem ldaZp (b : Byte) : Statement (.ldaZp b) := ⟨show Machine.table true 0xA5 = _ from rfl, rfl⟩
theorem ldaZpx (b : Byte) : Statement (.ldaZpx b) := ⟨show Machine.table true 0xB5 = _ from rfl, rfl⟩
theorem ldaAbs (w : Word) : Statement (.ldaAbs w) := ⟨show Machine.table true 0xAD = _ from rfl, rfl⟩
theorem ldaAbsx (w : Word) : Statement (.ldaAbsx w) := ⟨show Machine.table true 0xBD = _ from rfl, rfl⟩
theorem ldaAbsy (w : Word) : Statement (.ldaAbsy w) := ⟨show Machine.table true 0xB9 = _ from rfl, rfl⟩
theorem ldaIndx (b : Byte) : Statement (.ldaIndx b) := ⟨show Machine.table true 0xA1 = _ from rfl, rfl⟩
theorem ldaIndy (b : Byte) : Statement (.ldaIndy b) := ⟨show Machine.table true 0xB1 = _ from rfl, rfl⟩
theorem ldxImm (b : Byte) : Statement (.ldxImm b) := ⟨show Machine.table true 0xA2 = _ from rfl, rfl⟩
theorem ldxZp (b : Byte) : Statement (.ldxZp b) := ⟨show Machine.table true 0xA6 = _ from rfl, rfl⟩
theorem ldxZpy (b : Byte) : Statement (.ldxZpy b) := ⟨show Machine.table true 0xB6 = _ from rfl, rfl⟩
theorem ldxAbs (w : Word) : Statement (.ldxAbs w) := ⟨show Machine.table true 0xAE = _ from rfl, rfl⟩
theorem ldxAbsy (w : Word) : Statement (.ldxAbsy w) := ⟨show Machine.table true 0xBE = _ from rfl, rfl⟩
theorem ldyImm (b : Byte) : Statement (.ldyImm b) := ⟨show Machine.table true 0xA0 = _ from rfl, rfl⟩
theorem ldyZp (b : Byte) : Statement (.ldyZp b) := ⟨show Machine.table true 0xA4 = _ from rfl, rfl⟩
theorem ldyZpx (b : Byte) : Statement (.ldyZpx b) := ⟨show Machine.table true 0xB4 = _ from rfl, rfl⟩
theorem ldyAbs (w : Word) : Statement (.ldyAbs w) := ⟨show Machine.table true 0xAC = _ from rfl, rfl⟩
theorem ldyAbsx (w : Word) : Statement (.ldyAbsx w) := ⟨show Machine.table true 0xBC = _ from rfl, rfl⟩
theorem staZp (b : Byte) : Statement (.staZp b) := ⟨show Machine.table true 0x85 = _ from rfl, rfl⟩
theorem staZpx (b : Byte) : Statement (.staZpx b) := ⟨show Machine.table true 0x95 = _ from rfl, rfl⟩
theorem staAbs (w : Word) : Statement (.staAbs w) := ⟨show Machine.table true 0x8D = _ from rfl, rfl⟩
theorem staAbsx (w : Word) : Statement (.staAbsx w) := ⟨show Machine.table true 0x9D = _ from rfl, rfl⟩
theorem staAbsy (w : Word) : Statement (.staAbsy w) := ⟨show Machine.table true 0x99 = _ from rfl, rfl⟩
theorem staIndx (b : Byte) : Statement (.staIndx b) := ⟨show Machine.table true 0x81 = _ from rfl, rfl⟩
theorem staIndy (b : Byte) : Statement (.staIndy b) := ⟨show Machine.table true 0x91 = _ from rfl, rfl⟩
theorem stxZp (b : Byte) : Statement (.stxZp b) := ⟨show Machine.table true 0x86 = _ from rfl, rfl⟩
theorem stxZpy (b : Byte) : Statement (.stxZpy b) := ⟨show Machine.table true 0x96 = _ from rfl, rfl⟩
theorem stxAbs (w : Word) : Statement (.stxAbs w) := ⟨show Machine.table true 0x8E = _ from rfl, rfl⟩
theorem styZp (b : Byte) : Statement (.styZp b) := ⟨show Machine.table true 0x84 = _ from rfl, rfl⟩
theorem styZpx (b : Byte) : Statement (.styZpx b) := ⟨show Machine.table true 0x94 = _ from rfl, rfl⟩
theorem styAbs (w : Word) : Statement (.styAbs w) := ⟨show Machine.table true 0x8C = _ from rfl, rfl⟩
theorem tax : Statement (.tax) := ⟨show Machine.table true 0xAA = _ from rfl, rfl⟩
theorem tay : Statement (.tay) := ⟨show Machine.table true 0xA8 = _ from rfl, rfl⟩
theorem txa : Statement (.txa) := ⟨show Machine.table true 0x8A = _ from rfl, rfl⟩
theorem tya : Statement (.tya) := ⟨show Machine.table true 0x98 = _ from rfl, rfl⟩
theorem tsx : Statement (.tsx) := ⟨show Machine.table true 0xBA = _ from rfl, rfl⟩
theorem txs : Statement (.txs) := ⟨show Machine.table true 0x9A = _ from rfl, rfl⟩
theorem inx : Statement (.inx) := ⟨show Machine.table true 0xE8 = _ from rfl, rfl⟩
theorem iny : Statement (.iny) := ⟨show Machine.table true 0xC8 = _ from rfl, rfl⟩
theorem dex : Statement (.dex) := ⟨show Machine.table true 0xCA = _ from rfl, rfl⟩
theorem dey : Statement (.dey) := ⟨show Machine.table true 0x88 = _ from rfl, rfl⟩
theorem incZp (b : Byte) : Statement (.incZp b) := ⟨show Machine.table true 0xE6 = _ from rfl, rfl⟩
theorem incZpx (b : Byte) : Statement (.incZpx b) := ⟨show Machine.table true 0xF6 = _ from rfl, rfl⟩
theorem incAbs (w : Word) : Statement (.incAbs w) := ⟨show Machine.table true 0xEE = _ from rfl, rfl⟩
theorem incAbsx (w : Word) : Statement (.incAbsx w) := ⟨show Machine.table true 0xFE = _ from rfl, rfl⟩
theorem decZp (b : Byte) : Statement (.decZp b) := ⟨show Machine.table true 0xC6 = _ from rfl, rfl⟩
theorem decZpx (b : Byte) : Statement (.decZpx b) := ⟨show Machine.table true 0xD6 = _ from rfl, rfl⟩
theorem decAbs (w : Word) : Statement (.decAbs w) := ⟨show Machine.table true 0xCE = _ from rfl, rfl⟩
theorem decAbsx (w : Word) : Statement (.decAbsx w) := ⟨show Machine.table true 0xDE = _ from rfl, rfl⟩
theorem andImm (b : Byte) : Statement (.andImm b) := ⟨show Machine.table true 0x29 = _ from rfl, rfl⟩
theorem andZp (b : Byte) : Statement (.andZp b) := ⟨show Machine.table true 0x25 = _ from rfl, rfl⟩
theorem andZpx (b : Byte) : Statement (.andZpx b) := ⟨show Machine.table true 0x35 = _ from rfl, rfl⟩
theorem andAbs (w : Word) : Statement (.andAbs w) := ⟨show Machine.table true 0x2D = _ from rfl, rfl⟩
theorem andAbsx (w : Word) : Statement (.andAbsx w) := ⟨show Machine.table true 0x3D = _ from rfl, rfl⟩
theorem andAbsy (w : Word) : Statement (.andAbsy w) := ⟨show Machine.table true 0x39 = _ from rfl, rfl⟩
theorem andIndx (b : Byte) : Statement (.andIndx b) := ⟨show Machine.table true 0x21 = _ from rfl, rfl⟩
theorem andIndy (b : Byte) : Statement (.andIndy b) := ⟨show Machine.table true 0x31 = _ from rfl, rfl⟩
theorem oraImm (b : Byte) : Statement (.oraImm b) := ⟨show Machine.table true 0x09 = _ from rfl, rfl⟩
theorem oraZp (b : Byte) : Statement (.oraZp b) := ⟨show Machine.table true 0x05 = _ from rfl, rfl⟩
theorem oraZpx (b : Byte) : Statement (.oraZpx b) := ⟨show Machine.table true 0x15 = _ from rfl, rfl⟩
theorem oraAbs (w : Word) : Statement (.oraAbs w) := ⟨show Machine.table true 0x0D = _ from rfl, rfl⟩
theorem oraAbsx (w : Word) : Statement (.oraAbsx w) := ⟨show Machine.table true 0x1D = _ from rfl, rfl⟩
theorem oraAbsy (w : Word) : Statement (.oraAbsy w) := ⟨show Machine.table true 0x19 = _ from rfl, rfl⟩
theorem oraIndx (b : Byte) : Statement (.oraIndx b) := ⟨show Machine.table true 0x01 = _ from rfl, rfl⟩
theorem oraIndy (b : Byte) : Statement (.oraIndy b) := ⟨show Machine.table true 0x11 = _ from rfl, rfl⟩
theorem eorImm (b : Byte) : Statement (.eorImm b) := ⟨show Machine.table true 0x49 = _ from rfl, rfl⟩
theorem eorZp (b : Byte) : Statement (.eorZp b) := ⟨show Machine.table true 0x45 = _ from rfl, rfl⟩
theorem eorZpx (b : Byte) : Statement (.eorZpx b) := ⟨show Machine.table true 0x55 = _ from rfl, rfl⟩
theorem eorAbs (w : Word) : Statement (.eorAbs w) := ⟨show Machine.table true 0x4D = _ from rfl, rfl⟩
theorem eorAbsx (w : Word) : Statement (.eorAbsx w) := ⟨show Machine.table true 0x5D = _ from rfl, rfl⟩
theorem eorAbsy (w : Word) : Statement (.eorAbsy w) := ⟨show Machine.table true 0x59 = _ from rfl, rfl⟩
theorem eorIndx (b : Byte) : Statement (.eorIndx b) := ⟨show Machine.table true 0x41 = _ from rfl, rfl⟩
theorem eorIndy (b : Byte) : Statement (.eorIndy b) := ⟨show Machine.table true 0x51 = _ from rfl, rfl⟩
theorem aslAcc : Statement (.aslAcc) := ⟨show Machine.table true 0x0A = _ from rfl, rfl⟩
theorem aslZp (b : Byte) : Statement (.aslZp b) := ⟨show Machine.table true 0x06 = _ from rfl, rfl⟩
theorem aslZpx (b : Byte) : Statement (.aslZpx b) := ⟨show Machine.table true 0x16 = _ from rfl, rfl⟩
theorem aslAbs (w : Word) : Statement (.aslAbs w) := ⟨show Machine.table true 0x0E = _ from rfl, rfl⟩
theorem aslAbsx (w : Word) : Statement (.aslAbsx w) := ⟨show Machine.table true 0x1E = _ from rfl, rfl⟩
theorem lsrAcc : Statement (.lsrAcc) := ⟨show Machine.table true 0x4A = _ from rfl, rfl⟩
theorem lsrZp (b : Byte) : Statement (.lsrZp b) := ⟨show Machine.table true 0x46 = _ from rfl, rfl⟩
theorem lsrZpx (b : Byte) : Statement (.lsrZpx b) := ⟨show Machine.table true 0x56 = _ from rfl, rfl⟩
theorem lsrAbs (w : Word) : Statement (.lsrAbs w) := ⟨show Machine.table true 0x4E = _ from rfl, rfl⟩
theorem lsrAbsx (w : Word) : Statement (.lsrAbsx w) := ⟨show Machine.table true 0x5E = _ from rfl, rfl⟩
theorem rolAcc : Statement (.rolAcc) := ⟨show Machine.table true 0x2A = _ from rfl, rfl⟩
theorem rolZp (b : Byte) : Statement (.rolZp b) := ⟨show Machine.table true 0x26 = _ from rfl, rfl⟩
theorem rolZpx (b : Byte) : Statement (.rolZpx b) := ⟨show Machine.table true 0x36 = _ from rfl, rfl⟩
theorem rolAbs (w : Word) : Statement (.rolAbs w) := ⟨show Machine.table true 0x2E = _ from rfl, rfl⟩
theorem rolAbsx (w : Word) : Statement (.rolAbsx w) := ⟨show Machine.table true 0x3E = _ from rfl, rfl⟩
theorem rorAcc : Statement (.rorAcc) := ⟨show Machine.table true 0x6A = _ from rfl, rfl⟩
theorem rorZp (b : Byte) : Statement (.rorZp b) := ⟨show Machine.table true 0x66 = _ from rfl, rfl⟩
theorem rorZpx (b : Byte) : Statement (.rorZpx b) := ⟨show Machine.table true 0x76 = _ from rfl, rfl⟩
theorem rorAbs (w : Word) : Statement (.rorAbs w) := ⟨show Machine.table true 0x6E = _ from rfl, rfl⟩
theorem rorAbsx (w : Word) : Statement (.rorAbsx w) := ⟨show Machine.table true 0x7E = _ from rfl, rfl⟩
theorem adcImm (b : Byte) : Statement (.adcImm b) := ⟨show Machine.table true 0x69 = _ from rfl, rfl⟩
theorem adcZp (b : Byte) : Statement (.adcZp b) := ⟨show Machine.table true 0x65 = _ from rfl, rfl⟩
theorem adcZpx (b : Byte) : Statement (.adcZpx b) := ⟨show Machine.table true 0x75 = _ from rfl, rfl⟩
theorem adcAbs (w : Word) : Statement (.adcAbs w) := ⟨show Machine.table true 0x6D = _ from rfl, rfl⟩
theorem adcAbsx (w : Word) : Statement (.adcAbsx w) := ⟨show Machine.table true 0x7D = _ from rfl, rfl⟩
theorem adcAbsy (w : Word) : Statement (.adcAbsy w) := ⟨show Machine.table true 0x79 = _ from rfl, rfl⟩
theorem adcIndx (b : Byte) : Statement (.adcIndx b) := ⟨show Machine.table true 0x61 = _ from rfl, rfl⟩
theorem adcIndy (b : Byte) : Statement (.adcIndy b) := ⟨show Machine.table true 0x71 = _ from rfl, rfl⟩
theorem sbcImm (b : Byte) : Statement (.sbcImm b) := ⟨show Machine.table true 0xE9 = _ from rfl, rfl⟩
theorem sbcZp (b : Byte) : Statement (.sbcZp b) := ⟨show Machine.table true 0xE5 = _ from rfl, rfl⟩
theorem sbcZpx (b : Byte) : Statement (.sbcZpx b) := ⟨show Machine.table true 0xF5 = _ from rfl, rfl⟩
theorem sbcAbs (w : Word) : Statement (.sbcAbs w) := ⟨show Machine.table true 0xED = _ from rfl, rfl⟩
theorem sbcAbsx (w : Word) : Statement (.sbcAbsx w) := ⟨show Machine.table true 0xFD = _ from rfl, rfl⟩
theorem sbcAbsy (w : Word) : Statement (.sbcAbsy w) := ⟨show Machine.table true 0xF9 = _ from rfl, rfl⟩
theorem sbcIndx (b : Byte) : Statement (.sbcIndx b) := ⟨show Machine.table true 0xE1 = _ from rfl, rfl⟩
theorem sbcIndy (b : Byte) : Statement (.sbcIndy b) := ⟨show Machine.table true 0xF1 = _ from rfl, rfl⟩
theorem cmpImm (b : Byte) : Statement (.cmpImm b) := ⟨show Machine.table true 0xC9 = _ from rfl, rfl⟩
theorem cmpZp (b : Byte) : Statement (.cmpZp b) := ⟨show Machine.table true 0xC5 = _ from rfl, rfl⟩
theorem cmpZpx (b : Byte) : Statement (.cmpZpx b) := ⟨show Machine.table true 0xD5 = _ from rfl, rfl⟩
theorem cmpAbs (w : Word) : Statement (.cmpAbs w) := ⟨show Machine.table true 0xCD = _ from rfl, rfl⟩
theorem cmpAbsx (w : Word) : Statement (.cmpAbsx w) := ⟨show Machine.table true 0xDD = _ from rfl, rfl⟩
theorem cmpAbsy (w : Word) : Statement (.cmpAbsy w) := ⟨show Machine.table true 0xD9 = _ from rfl, rfl⟩
theorem cmpIndx (b : Byte) : Statement (.cmpIndx b) := ⟨show Machine.table true 0xC1 = _ from rfl, rfl⟩
theorem cmpIndy (b : Byte) : Statement (.cmpIndy b) := ⟨show Machine.table true 0xD1 = _ from rfl, rfl⟩
theorem cpxImm (b : Byte) : Statement (.cpxImm b) := ⟨show Machine.table true 0xE0 = _ from rfl, rfl⟩
theorem cpxZp (b : Byte) : Statement (.cpxZp b) := ⟨show Machine.table true 0xE4 = _ from rfl, rfl⟩
theorem cpxAbs (w : Word) : Statement (.cpxAbs w) := ⟨show Machine.table true 0xEC = _ from rfl, rfl⟩
theorem cpyImm (b : Byte) : Statement (.cpyImm b) := ⟨show Machine.table true 0xC0 = _ from rfl, rfl⟩
theorem cpyZp (b : Byte) : Statement (.cpyZp b) := ⟨show Machine.table true 0xC4 = _ from rfl, rfl⟩
theorem cpyAbs (w : Word) : Statement (.cpyAbs w) := ⟨show Machine.table true 0xCC = _ from rfl, rfl⟩
theorem bitZp (b : Byte) : Statement (.bitZp b) := ⟨show Machine.table true 0x24 = _ from rfl, rfl⟩
theorem bitAbs (w : Word) : Statement (.bitAbs w) := ⟨show Machine.table true 0x2C = _ from rfl, rfl⟩
theorem bcc (b : Byte) : Statement (.bcc b) := ⟨show Machine.table true 0x90 = _ from rfl, rfl⟩
theorem bcs (b : Byte) : Statement (.bcs b) := ⟨show Machine.table true 0xB0 = _ from rfl, rfl⟩
theorem beq (b : Byte) : Statement (.beq b) := ⟨show Machine.table true 0xF0 = _ from rfl, rfl⟩
theorem bne (b : Byte) : Statement (.bne b) := ⟨show Machine.table true 0xD0 = _ from rfl, rfl⟩
theorem bmi (b : Byte) : Statement (.bmi b) := ⟨show Machine.table true 0x30 = _ from rfl, rfl⟩
theorem bpl (b : Byte) : Statement (.bpl b) := ⟨show Machine.table true 0x10 = _ from rfl, rfl⟩
theorem bvc (b : Byte) : Statement (.bvc b) := ⟨show Machine.table true 0x50 = _ from rfl, rfl⟩
theorem bvs (b : Byte) : Statement (.bvs b) := ⟨show Machine.table true 0x70 = _ from rfl, rfl⟩
theorem jmpJabs (w : Word) : Statement (.jmpJabs w) := ⟨show Machine.table true 0x4C = _ from rfl, rfl⟩
theorem jmpInd (w : Word) : Statement (.jmpInd w) := ⟨show Machine.table true 0x6C = _ from rfl, rfl⟩
theorem jsr (w : Word) : Statement (.jsr w) := ⟨show Machine.table true 0x20 = _ from rfl, rfl⟩
theorem rts : Statement (.rts) := ⟨show Machine.table true 0x60 = _ from rfl, rfl⟩
theorem pha : Statement (.pha) := ⟨show Machine.table true 0x48 = _ from rfl, rfl⟩
theorem pla : Statement (.pla) := ⟨show Machine.table true 0x68 = _ from rfl, rfl⟩
theorem php : Statement (.php) := ⟨show Machine.table true 0x08 = _ from rfl, rfl⟩
theorem plp : Statement (.plp) := ⟨show Machine.table true 0x28 = _ from rfl, rfl⟩
theorem sec : Statement (.sec) := ⟨show Machine.table true 0x38 = _ from rfl, rfl⟩
theorem clc : Statement (.clc) := ⟨show Machine.table true 0x18 = _ from rfl, rfl⟩
theorem cli : Statement (.cli) := ⟨show Machine.table true 0x58 = _ from rfl, rfl⟩
theorem cld : Statement (.cld) := ⟨show Machine.table true 0xD8 = _ from rfl, rfl⟩
theorem clv : Statement (.clv) := ⟨show Machine.table true 0xB8 = _ from rfl, rfl⟩
theorem nop : Statement (.nop) := ⟨show Machine.table true 0xEA = _ from rfl, rfl⟩
theorem brk : Statement (.brk) := ⟨show Machine.table true 0x00 = _ from rfl, rfl⟩
theorem sei : Statement (.sei) := ⟨show Machine.table true 0x78 = _ from rfl, rfl⟩
theorem sed : Statement (.sed) := ⟨show Machine.table true 0xF8 = _ from rfl, rfl⟩

end Sys2Proof.Laws.TableEntry
end

