-- ==== Sys2Proof/Tests/Slice0.lean ====
section
/-! SUPPORT. The model's own tests. A decode test has the bytes of the opcode map (spec/30_encoding.md section 3); a test
named after a vector is that vector of spec/95_test_vectors.md, start and end state whole; a witness shows states and
operands that meet the hypotheses of the statement it is named after. -/

namespace Sys2Proof.Machine

/-! ### Well-formedness: the check and the terms it refuses -/

theorem test_wf_refuses_sei_without_parameter : Instr.wf false .sei = false := by decide
theorem test_wf_refuses_sed_without_parameter : Instr.wf false .sed = false := by decide
theorem test_wf_admits_sei_sed_with_parameter : (Instr.wf true .sei && Instr.wf true .sed) = true := by decide

/-! ### Decoding: the mapped bytes of each row of the opcode map, with the operand bytes 0x42, or 0x34 0x12 -/

/-- What the decoder, with SEI and SED mapped, reads from bytes that are exactly one instruction. -/
def reads (bytes : List Byte) : Option Instr :=
  match decode true bytes with
  | .ok (i, []) => some i
  | _ => none

theorem test_decode_row_0 :
    List.map reads [
        [0x00], [0x01, 0x42], [0x05, 0x42], [0x06, 0x42], [0x08], [0x09, 0x42], [0x0A], [0x0D, 0x34, 0x12],
        [0x0E, 0x34, 0x12]] = [
        some .brk, some (.oraIndx 0x42), some (.oraZp 0x42), some (.aslZp 0x42), some .php, some (.oraImm 0x42),
        some .aslAcc, some (.oraAbs 0x1234), some (.aslAbs 0x1234)] := by
  decide

theorem test_decode_row_1 :
    List.map reads [
        [0x10, 0x42], [0x11, 0x42], [0x15, 0x42], [0x16, 0x42], [0x18], [0x19, 0x34, 0x12], [0x1D, 0x34, 0x12],
        [0x1E, 0x34, 0x12]] = [
        some (.bpl 0x42), some (.oraIndy 0x42), some (.oraZpx 0x42), some (.aslZpx 0x42), some .clc,
        some (.oraAbsy 0x1234), some (.oraAbsx 0x1234), some (.aslAbsx 0x1234)] := by
  decide

theorem test_decode_row_2 :
    List.map reads [
        [0x20, 0x34, 0x12], [0x21, 0x42], [0x24, 0x42], [0x25, 0x42], [0x26, 0x42], [0x28], [0x29, 0x42], [0x2A],
        [0x2C, 0x34, 0x12], [0x2D, 0x34, 0x12], [0x2E, 0x34, 0x12]] = [
        some (.jsr 0x1234), some (.andIndx 0x42), some (.bitZp 0x42), some (.andZp 0x42), some (.rolZp 0x42),
        some .plp, some (.andImm 0x42), some .rolAcc, some (.bitAbs 0x1234), some (.andAbs 0x1234),
        some (.rolAbs 0x1234)] := by
  decide

theorem test_decode_row_3 :
    List.map reads [
        [0x30, 0x42], [0x31, 0x42], [0x35, 0x42], [0x36, 0x42], [0x38], [0x39, 0x34, 0x12], [0x3D, 0x34, 0x12],
        [0x3E, 0x34, 0x12]] = [
        some (.bmi 0x42), some (.andIndy 0x42), some (.andZpx 0x42), some (.rolZpx 0x42), some .sec,
        some (.andAbsy 0x1234), some (.andAbsx 0x1234), some (.rolAbsx 0x1234)] := by
  decide

theorem test_decode_row_4 :
    List.map reads [
        [0x41, 0x42], [0x45, 0x42], [0x46, 0x42], [0x48], [0x49, 0x42], [0x4A], [0x4C, 0x34, 0x12],
        [0x4D, 0x34, 0x12], [0x4E, 0x34, 0x12]] = [
        some (.eorIndx 0x42), some (.eorZp 0x42), some (.lsrZp 0x42), some .pha, some (.eorImm 0x42), some .lsrAcc,
        some (.jmpJabs 0x1234), some (.eorAbs 0x1234), some (.lsrAbs 0x1234)] := by
  decide

theorem test_decode_row_5 :
    List.map reads [
        [0x50, 0x42], [0x51, 0x42], [0x55, 0x42], [0x56, 0x42], [0x58], [0x59, 0x34, 0x12], [0x5D, 0x34, 0x12],
        [0x5E, 0x34, 0x12]] = [
        some (.bvc 0x42), some (.eorIndy 0x42), some (.eorZpx 0x42), some (.lsrZpx 0x42), some .cli,
        some (.eorAbsy 0x1234), some (.eorAbsx 0x1234), some (.lsrAbsx 0x1234)] := by
  decide

theorem test_decode_row_6 :
    List.map reads [
        [0x60], [0x61, 0x42], [0x65, 0x42], [0x66, 0x42], [0x68], [0x69, 0x42], [0x6A], [0x6C, 0x34, 0x12],
        [0x6D, 0x34, 0x12], [0x6E, 0x34, 0x12]] = [
        some .rts, some (.adcIndx 0x42), some (.adcZp 0x42), some (.rorZp 0x42), some .pla, some (.adcImm 0x42),
        some .rorAcc, some (.jmpInd 0x1234), some (.adcAbs 0x1234), some (.rorAbs 0x1234)] := by
  decide

theorem test_decode_row_7 :
    List.map reads [
        [0x70, 0x42], [0x71, 0x42], [0x75, 0x42], [0x76, 0x42], [0x78], [0x79, 0x34, 0x12], [0x7D, 0x34, 0x12],
        [0x7E, 0x34, 0x12]] = [
        some (.bvs 0x42), some (.adcIndy 0x42), some (.adcZpx 0x42), some (.rorZpx 0x42), some .sei,
        some (.adcAbsy 0x1234), some (.adcAbsx 0x1234), some (.rorAbsx 0x1234)] := by
  decide

theorem test_decode_row_8 :
    List.map reads [
        [0x81, 0x42], [0x84, 0x42], [0x85, 0x42], [0x86, 0x42], [0x88], [0x8A], [0x8C, 0x34, 0x12],
        [0x8D, 0x34, 0x12], [0x8E, 0x34, 0x12]] = [
        some (.staIndx 0x42), some (.styZp 0x42), some (.staZp 0x42), some (.stxZp 0x42), some .dey, some .txa,
        some (.styAbs 0x1234), some (.staAbs 0x1234), some (.stxAbs 0x1234)] := by
  decide

theorem test_decode_row_9 :
    List.map reads [
        [0x90, 0x42], [0x91, 0x42], [0x94, 0x42], [0x95, 0x42], [0x96, 0x42], [0x98], [0x99, 0x34, 0x12], [0x9A],
        [0x9D, 0x34, 0x12]] = [
        some (.bcc 0x42), some (.staIndy 0x42), some (.styZpx 0x42), some (.staZpx 0x42), some (.stxZpy 0x42),
        some .tya, some (.staAbsy 0x1234), some .txs, some (.staAbsx 0x1234)] := by
  decide

theorem test_decode_row_A :
    List.map reads [
        [0xA0, 0x42], [0xA1, 0x42], [0xA2, 0x42], [0xA4, 0x42], [0xA5, 0x42], [0xA6, 0x42], [0xA8], [0xA9, 0x42],
        [0xAA], [0xAC, 0x34, 0x12], [0xAD, 0x34, 0x12], [0xAE, 0x34, 0x12]] = [
        some (.ldyImm 0x42), some (.ldaIndx 0x42), some (.ldxImm 0x42), some (.ldyZp 0x42), some (.ldaZp 0x42),
        some (.ldxZp 0x42), some .tay, some (.ldaImm 0x42), some .tax, some (.ldyAbs 0x1234), some (.ldaAbs 0x1234),
        some (.ldxAbs 0x1234)] := by
  decide

theorem test_decode_row_B :
    List.map reads [
        [0xB0, 0x42], [0xB1, 0x42], [0xB4, 0x42], [0xB5, 0x42], [0xB6, 0x42], [0xB8], [0xB9, 0x34, 0x12], [0xBA],
        [0xBC, 0x34, 0x12], [0xBD, 0x34, 0x12], [0xBE, 0x34, 0x12]] = [
        some (.bcs 0x42), some (.ldaIndy 0x42), some (.ldyZpx 0x42), some (.ldaZpx 0x42), some (.ldxZpy 0x42),
        some .clv, some (.ldaAbsy 0x1234), some .tsx, some (.ldyAbsx 0x1234), some (.ldaAbsx 0x1234),
        some (.ldxAbsy 0x1234)] := by
  decide

theorem test_decode_row_C :
    List.map reads [
        [0xC0, 0x42], [0xC1, 0x42], [0xC4, 0x42], [0xC5, 0x42], [0xC6, 0x42], [0xC8], [0xC9, 0x42], [0xCA],
        [0xCC, 0x34, 0x12], [0xCD, 0x34, 0x12], [0xCE, 0x34, 0x12]] = [
        some (.cpyImm 0x42), some (.cmpIndx 0x42), some (.cpyZp 0x42), some (.cmpZp 0x42), some (.decZp 0x42),
        some .iny, some (.cmpImm 0x42), some .dex, some (.cpyAbs 0x1234), some (.cmpAbs 0x1234),
        some (.decAbs 0x1234)] := by
  decide

theorem test_decode_row_D :
    List.map reads [
        [0xD0, 0x42], [0xD1, 0x42], [0xD5, 0x42], [0xD6, 0x42], [0xD8], [0xD9, 0x34, 0x12], [0xDD, 0x34, 0x12],
        [0xDE, 0x34, 0x12]] = [
        some (.bne 0x42), some (.cmpIndy 0x42), some (.cmpZpx 0x42), some (.decZpx 0x42), some .cld,
        some (.cmpAbsy 0x1234), some (.cmpAbsx 0x1234), some (.decAbsx 0x1234)] := by
  decide

theorem test_decode_row_E :
    List.map reads [
        [0xE0, 0x42], [0xE1, 0x42], [0xE4, 0x42], [0xE5, 0x42], [0xE6, 0x42], [0xE8], [0xE9, 0x42], [0xEA],
        [0xEC, 0x34, 0x12], [0xED, 0x34, 0x12], [0xEE, 0x34, 0x12]] = [
        some (.cpxImm 0x42), some (.sbcIndx 0x42), some (.cpxZp 0x42), some (.sbcZp 0x42), some (.incZp 0x42),
        some .inx, some (.sbcImm 0x42), some .nop, some (.cpxAbs 0x1234), some (.sbcAbs 0x1234),
        some (.incAbs 0x1234)] := by
  decide

theorem test_decode_row_F :
    List.map reads [
        [0xF0, 0x42], [0xF1, 0x42], [0xF5, 0x42], [0xF6, 0x42], [0xF8], [0xF9, 0x34, 0x12], [0xFD, 0x34, 0x12],
        [0xFE, 0x34, 0x12]] = [
        some (.beq 0x42), some (.sbcIndy 0x42), some (.sbcZpx 0x42), some (.incZpx 0x42), some .sed,
        some (.sbcAbsy 0x1234), some (.sbcAbsx 0x1234), some (.incAbsx 0x1234)] := by
  decide

theorem test_decode_rejects :
    (decode true [0x02]).toOption = none ∧ (decode true [0xFF, 0x00, 0x00]).toOption = none ∧
    (decode false [0x78]).toOption = none ∧ (decode false [0xF8]).toOption = none ∧ (decode true []).toOption = none ∧
    (decode true [0xA9]).toOption = none ∧ (decode true [0xAD, 0x34]).toOption = none := by
  decide

theorem test_encode_words :
    encode (.jmpInd 0x30FF) = [0x6C, 0xFF, 0x30] ∧ encode (.bne 0xF8) = [0xD0, 0xF8] ∧ encode .tax = [0xAA] := by decide

theorem test_decodeTableWord :
    decodeTableWord 8 0xAD = some (.ldaAbs 0x0000) ∧ decodeTableWord 16 0x42A9 = some (.ldaImm 0x42) ∧
    decodeTableWord 24 0x1234AD = some (.ldaAbs 0x1234) ∧ decodeTableWord 8 0x78 = some .sei ∧
    decodeTableWord 8 0x02 = none := by
  decide

/-! ### One step on small states: the spec's test vectors -/

/-- The state in which bytes lie at PC and further cells in memory. -/
def start (bytes : List Byte) (cells : List Host.Cell) (s : State) : State :=
  { s with mem := cells.foldl (fun (m : Memory) (c : Host.Cell) => m.set c.1 c.2) [] }.writeBytes s.pc bytes

/-- The next state of an outcome, if it is one. -/
def nextOf : Result → Option State
  | .next s => some s
  | .fault _ => none
  | .refused _ => none

/-- One step from `s` answers exactly `change s`. -/
abbrev Steps (s : State) (change : State → State) : Prop := nextOf (step s) = some (change s)

/-- V-AM1: Immediate. -/
theorem test_vector_AM1 :
    Steps (start [0xA9, 0x7F] [] { State.reset with pc := 0x8000 })
      (fun s => { s with a := 0x7F, pc := 0x8002 }) := by decide

/-- V-AM4: ZeroPage,X wraps in page 0. -/
theorem test_vector_AM4 :
    Steps (start [0xB5, 0xFF] [(0x0000, 0x77), (0x0100, 0x11)] { State.reset with pc := 0x8000, x := 0x01 })
      (fun s => { s with a := 0x77, pc := 0x8002 }) := by decide

/-- V-AM5: ZeroPage,Y wraps (LDX). -/
theorem test_vector_AM5 :
    Steps (start [0xB6, 0xF0] [(0x0010, 0x88), (0x0110, 0x11)] { State.reset with pc := 0x8000, y := 0x20 })
      (fun s => { s with x := 0x88, status := 0x80, pc := 0x8002 }) := by decide

/-- V-AM6: Absolute. -/
theorem test_vector_AM6 :
    Steps (start [0xAD, 0x34, 0x12] [(0x1234, 0x99)] { State.reset with pc := 0x8000 })
      (fun s => { s with a := 0x99, status := 0x80, pc := 0x8003 }) := by decide

/-- V-AM8: Absolute,X wraps at 64 KiB. -/
theorem test_vector_AM8 :
    Steps (start [0xBD, 0xFF, 0xFF] [(0x0000, 0x43)] { State.reset with pc := 0x8000, x := 0x01 })
      (fun s => { s with a := 0x43, pc := 0x8003 }) := by decide

/-- V-AM9: Absolute,Y wraps at 64 KiB. -/
theorem test_vector_AM9 :
    Steps (start [0xB9, 0xF0, 0xFF] [(0x0010, 0x44)] { State.reset with pc := 0x8000, y := 0x20 })
      (fun s => { s with a := 0x44, pc := 0x8003 }) := by decide

/-- V-AM11: Indirect,X base wraps, pointer bytes at 0xFF and 0x00. -/
theorem test_vector_AM11 :
    Steps (start [0xA1, 0xFE] [(0x0000, 0x30), (0x0100, 0x40), (0x3000, 0x5A)] { State.reset with pc := 0x8000, x := 0x01 })
      (fun s => { s with a := 0x5A, pc := 0x8002 }) := by decide

/-- V-AM12: Indirect,X pointer at 0xFF/0x00 via X=0. -/
theorem test_vector_AM12 :
    Steps (start [0xA1, 0xFF] [(0x0000, 0x12), (0x00FF, 0x34), (0x1234, 0x01)] { State.reset with pc := 0x8000 })
      (fun s => { s with a := 0x01, pc := 0x8002 }) := by decide

/-- V-AM14: Indirect,Y pointer bytes at 0xFF/0x00. -/
theorem test_vector_AM14 :
    Steps (start [0xB1, 0xFF] [(0x0000, 0x20), (0x00FF, 0x10), (0x0100, 0x30), (0x2012, 0x6C)] { State.reset with pc := 0x8000, y := 0x02 })
      (fun s => { s with a := 0x6C, pc := 0x8002 }) := by decide

/-- V-AM15: Indirect,Y sum wraps at 64 KiB. -/
theorem test_vector_AM15 :
    Steps (start [0xB1, 0x40] [(0x0001, 0x6D), (0x0040, 0xFF), (0x0041, 0xFF)] { State.reset with pc := 0x8000, y := 0x02 })
      (fun s => { s with a := 0x6D, pc := 0x8002 }) := by decide

/-- V-AM16: STA ZeroPage,X wraps. -/
theorem test_vector_AM16 :
    Steps (start [0x95, 0x80] [] { State.reset with pc := 0x8000, a := 0x3C, x := 0x90 })
      (fun s => { s.writeByte 0x0010 0x3C with pc := 0x8002 }) := by decide

/-- V-AM17: STA Indirect,Y. -/
theorem test_vector_AM17 :
    Steps (start [0x91, 0x10] [(0x0010, 0xFF), (0x0011, 0x02)] { State.reset with pc := 0x8000, a := 0x3D, y := 0x01 })
      (fun s => { s.writeByte 0x0300 0x3D with pc := 0x8002 }) := by decide

/-- V-AM18: Operand bytes wrap past 0xFFFF (LDA abs at 0xFFFE). -/
theorem test_vector_AM18 :
    Steps (start [0xAD] [(0x0000, 0x02), (0x0200, 0x12)] { State.reset with pc := 0xFFFE })
      (fun s => { s with a := 0x12, pc := 0x0001 }) := by decide

/-- V-LS1: LDA #0 sets Z. -/
theorem test_vector_LS1 :
    Steps (start [0xA9, 0x00] [] { State.reset with pc := 0x8000, status := 0x80 })
      (fun s => { s with status := 0x02, pc := 0x8002 }) := by decide

/-- V-LS5: LDY abs,X. -/
theorem test_vector_LS5 :
    Steps (start [0xBC, 0x00, 0x30] [] { State.reset with pc := 0x8000, x := 0x02 })
      (fun s => { s with status := 0x02, pc := 0x8003 }) := by decide

/-- V-LS6: STA writes no flag. -/
theorem test_vector_LS6 :
    Steps (start [0x8D, 0x00, 0x02] [] { State.reset with pc := 0x8000, a := 0x00, status := 0x80 })
      (fun s => { s with pc := 0x8003 }) := by decide

/-- V-LS7: STX zp,Y. -/
theorem test_vector_LS7 :
    Steps (start [0x96, 0xFF] [] { State.reset with pc := 0x8000, x := 0x21, y := 0x02 })
      (fun s => { s.writeByte 0x0001 0x21 with pc := 0x8002 }) := by decide

/-- V-LS8: STY abs. -/
theorem test_vector_LS8 :
    Steps (start [0x8C, 0xFF, 0xFF] [] { State.reset with pc := 0x8000, y := 0x9C })
      (fun s => { s.writeByte 0xFFFF 0x9C with pc := 0x8003 }) := by decide

/-- V-LS9: TAX of 0. -/
theorem test_vector_LS9 :
    Steps (start [0xAA] [] { State.reset with pc := 0x8000, a := 0x00, x := 0x12 })
      (fun s => { s with x := 0x00, status := 0x02, pc := 0x8001 }) := by decide

/-- V-LS10: TAY of 0x90. -/
theorem test_vector_LS10 :
    Steps (start [0xA8] [] { State.reset with pc := 0x8000, a := 0x90 })
      (fun s => { s with y := 0x90, status := 0x80, pc := 0x8001 }) := by decide

/-- V-LS11: TXA. -/
theorem test_vector_LS11 :
    Steps (start [0x8A] [] { State.reset with pc := 0x8000, x := 0x7F, a := 0x80, status := 0x80 })
      (fun s => { s with a := 0x7F, status := 0x00, pc := 0x8001 }) := by decide

/-- V-LS12: TYA of 0. -/
theorem test_vector_LS12 :
    Steps (start [0x98] [] { State.reset with pc := 0x8000, y := 0x00, a := 0x55 })
      (fun s => { s with a := 0x00, status := 0x02, pc := 0x8001 }) := by decide

/-- V-LS13: TSX after reset SP. -/
theorem test_vector_LS13 :
    Steps (start [0xBA] [] { State.reset with pc := 0x8000, sp := 0xFD })
      (fun s => { s with x := 0xFD, status := 0x80, pc := 0x8001 }) := by decide

/-- V-LS14: TXS writes no flag. -/
theorem test_vector_LS14 :
    Steps (start [0x9A] [] { State.reset with pc := 0x8000, x := 0x00, status := 0x80 })
      (fun s => { s with sp := 0x00, pc := 0x8001 }) := by decide

/-- V-ID1: INX 0xFF wraps, Z=1. -/
theorem test_vector_ID1 :
    Steps (start [0xE8] [] { State.reset with pc := 0x8000, x := 0xFF })
      (fun s => { s with x := 0x00, status := 0x02, pc := 0x8001 }) := by decide

/-- V-ID2: INX 0x7F gives N=1. -/
theorem test_vector_ID2 :
    Steps (start [0xE8] [] { State.reset with pc := 0x8000, x := 0x7F })
      (fun s => { s with x := 0x80, status := 0x80, pc := 0x8001 }) := by decide

/-- V-ID3: INY. -/
theorem test_vector_ID3 :
    Steps (start [0xC8] [] { State.reset with pc := 0x8000, y := 0x00, status := 0x02 })
      (fun s => { s with y := 0x01, status := 0x00, pc := 0x8001 }) := by decide

/-- V-ID4: DEX 0x00 wraps to 0xFF. -/
theorem test_vector_ID4 :
    Steps (start [0xCA] [] { State.reset with pc := 0x8000, x := 0x00 })
      (fun s => { s with x := 0xFF, status := 0x80, pc := 0x8001 }) := by decide

/-- V-ID5: DEY 0x01 gives Z=1. -/
theorem test_vector_ID5 :
    Steps (start [0x88] [] { State.reset with pc := 0x8000, y := 0x01 })
      (fun s => { s with y := 0x00, status := 0x02, pc := 0x8001 }) := by decide

/-- V-ID6: INC zp 0xFF wraps, C untouched. -/
theorem test_vector_ID6 :
    Steps (start [0xE6, 0x10] [(0x0010, 0xFF)] { State.reset with pc := 0x8000, status := 0x01 })
      (fun s => { s.writeByte 0x0010 0x00 with status := 0x03, pc := 0x8002 }) := by decide

/-- V-ID7: DEC abs,X 0x00 wraps. -/
theorem test_vector_ID7 :
    Steps (start [0xDE, 0x00, 0x20] [] { State.reset with pc := 0x8000, x := 0x05 })
      (fun s => { s.writeByte 0x2005 0xFF with status := 0x80, pc := 0x8003 }) := by decide

/-- V-ID8: INC zp,X wraps in page 0. -/
theorem test_vector_ID8 :
    Steps (start [0xF6, 0xFF] [(0x0001, 0x41)] { State.reset with pc := 0x8000, x := 0x02 })
      (fun s => { s.writeByte 0x0001 0x42 with pc := 0x8002 }) := by decide

/-- V-LG1: AND to zero. -/
theorem test_vector_LG1 :
    Steps (start [0x29, 0x0F] [] { State.reset with pc := 0x8000, a := 0xF0 })
      (fun s => { s with a := 0x00, status := 0x02, pc := 0x8002 }) := by decide

/-- V-LG3: ORA. -/
theorem test_vector_LG3 :
    Steps (start [0x09, 0x81] [] { State.reset with pc := 0x8000, a := 0x02 })
      (fun s => { s with a := 0x83, status := 0x80, pc := 0x8002 }) := by decide

/-- V-LG5: EOR #$FF inverts. -/
theorem test_vector_LG5 :
    Steps (start [0x49, 0xFF] [] { State.reset with pc := 0x8000, a := 0x0F, status := 0x41 })
      (fun s => { s with a := 0xF0, status := 0xC1, pc := 0x8002 }) := by decide

/-- V-LG6: ORA (zp),Y. -/
theorem test_vector_LG6 :
    Steps (start [0x11, 0x20] [(0x0021, 0x40), (0x4003, 0x10)] { State.reset with pc := 0x8000, a := 0x01, y := 0x03 })
      (fun s => { s with a := 0x11, pc := 0x8002 }) := by decide

/-- V-SR2: ASL A 0x80 gives 0. -/
theorem test_vector_SR2 :
    Steps (start [0x0A] [] { State.reset with pc := 0x8000, a := 0x80 })
      (fun s => { s with a := 0x00, status := 0x03, pc := 0x8001 }) := by decide

/-- V-SR3: ASL A 0x40 gives N. -/
theorem test_vector_SR3 :
    Steps (start [0x0A] [] { State.reset with pc := 0x8000, a := 0x40, status := 0x01 })
      (fun s => { s with a := 0x80, status := 0x80, pc := 0x8001 }) := by decide

/-- V-SR4: LSR A 0x01. -/
theorem test_vector_SR4 :
    Steps (start [0x4A] [] { State.reset with pc := 0x8000, a := 0x01 })
      (fun s => { s with a := 0x00, status := 0x03, pc := 0x8001 }) := by decide

/-- V-SR5: LSR A 0xFF clears N. -/
theorem test_vector_SR5 :
    Steps (start [0x4A] [] { State.reset with pc := 0x8000, a := 0xFF, status := 0x80 })
      (fun s => { s with a := 0x7F, status := 0x01, pc := 0x8001 }) := by decide

/-- V-SR6: ROL A 0x80 C=0. -/
theorem test_vector_SR6 :
    Steps (start [0x2A] [] { State.reset with pc := 0x8000, a := 0x80 })
      (fun s => { s with a := 0x00, status := 0x03, pc := 0x8001 }) := by decide

/-- V-SR7: ROL A 0x40 C=1. -/
theorem test_vector_SR7 :
    Steps (start [0x2A] [] { State.reset with pc := 0x8000, a := 0x40, status := 0x01 })
      (fun s => { s with a := 0x81, status := 0x80, pc := 0x8001 }) := by decide

/-- V-SR8: ROR A 0x01 C=0. -/
theorem test_vector_SR8 :
    Steps (start [0x6A] [] { State.reset with pc := 0x8000, a := 0x01 })
      (fun s => { s with a := 0x00, status := 0x03, pc := 0x8001 }) := by decide

/-- V-SR9: ROR A 0x00 C=1. -/
theorem test_vector_SR9 :
    Steps (start [0x6A] [] { State.reset with pc := 0x8000, a := 0x00, status := 0x01 })
      (fun s => { s with a := 0x80, status := 0x80, pc := 0x8001 }) := by decide

/-- V-SR10: ASL zp (memory form). -/
theorem test_vector_SR10 :
    Steps (start [0x06, 0x10] [(0x0010, 0xC0)] { State.reset with pc := 0x8000, a := 0x11 })
      (fun s => { s.writeByte 0x0010 0x80 with status := 0x81, pc := 0x8002 }) := by decide

/-- V-SR11: ROR abs,X memory. -/
theorem test_vector_SR11 :
    Steps (start [0x7E, 0x00, 0x30] [(0x3001, 0x02)] { State.reset with pc := 0x8000, x := 0x01, status := 0x01 })
      (fun s => { s.writeByte 0x3001 0x81 with status := 0x80, pc := 0x8003 }) := by decide

/-- V-SR12: LSR zp,X memory to 0. -/
theorem test_vector_SR12 :
    Steps (start [0x56, 0x10] [(0x0011, 0x01)] { State.reset with pc := 0x8000, x := 0x01 })
      (fun s => { s.writeByte 0x0011 0x00 with status := 0x03, pc := 0x8002 }) := by decide

/-- V-AD3: 0x80 + 0x80 carry and overflow. -/
theorem test_vector_AD3 :
    Steps (start [0x69, 0x80] [] { State.reset with pc := 0x8000, a := 0x80 })
      (fun s => { s with a := 0x00, status := 0x43, pc := 0x8002 }) := by decide

/-- V-AD4: 0x7F + 0x00 + C overflow. -/
theorem test_vector_AD4 :
    Steps (start [0x69, 0x00] [] { State.reset with pc := 0x8000, a := 0x7F, status := 0x01 })
      (fun s => { s with a := 0x80, status := 0xC0, pc := 0x8002 }) := by decide

/-- V-SB4: 0x7F - 0xFF overflow, borrow. -/
theorem test_vector_SB4 :
    Steps (start [0xE9, 0xFF] [] { State.reset with pc := 0x8000, a := 0x7F, status := 0x01 })
      (fun s => { s with a := 0x80, status := 0xC0, pc := 0x8002 }) := by decide

/-- V-SB5: 0x00 - 0x00 with C=0 (borrow in). -/
theorem test_vector_SB5 :
    Steps (start [0xE9, 0x00] [] { State.reset with pc := 0x8000, a := 0x00 })
      (fun s => { s with a := 0xFF, status := 0x80, pc := 0x8002 }) := by decide

/-- V-CP2: CMP less. -/
theorem test_vector_CP2 :
    Steps (start [0xC9, 0x02] [] { State.reset with pc := 0x8000, a := 0x01 })
      (fun s => { s with status := 0x80, pc := 0x8002 }) := by decide

/-- V-CP5: CMP does not touch V. -/
theorem test_vector_CP5 :
    Steps (start [0xC9, 0x10] [] { State.reset with pc := 0x8000, a := 0x90, status := 0x40 })
      (fun s => { s with status := 0xC1, pc := 0x8002 }) := by decide

/-- V-CP6: CPX zp equal. -/
theorem test_vector_CP6 :
    Steps (start [0xE4, 0x10] [(0x0010, 0x07)] { State.reset with pc := 0x8000, x := 0x07 })
      (fun s => { s with status := 0x03, pc := 0x8002 }) := by decide

/-- V-CP7: CPY #0 with Y=0xFF. -/
theorem test_vector_CP7 :
    Steps (start [0xC0, 0x00] [] { State.reset with pc := 0x8000, y := 0xFF })
      (fun s => { s with status := 0x81, pc := 0x8002 }) := by decide

/-- V-BT1: A=0x01, M=0xC0. -/
theorem test_vector_BT1 :
    Steps (start [0x24, 0x10] [(0x0010, 0xC0)] { State.reset with pc := 0x8000, a := 0x01 })
      (fun s => { s with status := 0xC2, pc := 0x8002 }) := by decide

/-- V-BT2: A=0xFF, M=0x01 clears N, V, Z. -/
theorem test_vector_BT2 :
    Steps (start [0x2C, 0x00, 0x20] [(0x2000, 0x01)] { State.reset with pc := 0x8000, a := 0xFF, status := 0xC2 })
      (fun s => { s with status := 0x00, pc := 0x8003 }) := by decide

/-- V-BR1: BCC +2 taken (C=0). -/
theorem test_vector_BR1 :
    Steps (start [0x90, 0x02] [] { State.reset with pc := 0x8000 })
      (fun s => { s with pc := 0x8004 }) := by decide

/-- V-BR2: BCC not taken (C=1). -/
theorem test_vector_BR2 :
    Steps (start [0x90, 0x02] [] { State.reset with pc := 0x8000, status := 0x01 })
      (fun s => { s with pc := 0x8002 }) := by decide

/-- V-BR3: BCS +2 taken (C=1). -/
theorem test_vector_BR3 :
    Steps (start [0xB0, 0x02] [] { State.reset with pc := 0x8000, status := 0x01 })
      (fun s => { s with pc := 0x8004 }) := by decide

/-- V-BR4: BEQ backward 0xFC. -/
theorem test_vector_BR4 :
    Steps (start [0xF0, 0xFC] [] { State.reset with pc := 0x8000, status := 0x02 })
      (fun s => { s with pc := 0x7FFE }) := by decide

/-- V-BR5: BNE +0x7F. -/
theorem test_vector_BR5 :
    Steps (start [0xD0, 0x7F] [] { State.reset with pc := 0x8000 })
      (fun s => { s with pc := 0x8081 }) := by decide

/-- V-BR6: BMI -128. -/
theorem test_vector_BR6 :
    Steps (start [0x30, 0x80] [] { State.reset with pc := 0x8000, status := 0x80 })
      (fun s => { s with pc := 0x7F82 }) := by decide

/-- V-BR7: BPL wraps past 0xFFFF. -/
theorem test_vector_BR7 :
    Steps (start [0x10, 0x05] [] { State.reset with pc := 0xFFFE })
      (fun s => { s with pc := 0x0005 }) := by decide

/-- V-BR8: BVC offset 0x00. -/
theorem test_vector_BR8 :
    Steps (start [0x50, 0x00] [] { State.reset with pc := 0x8000 })
      (fun s => { s with pc := 0x8002 }) := by decide

/-- V-BR9: BVS taken 0xFF (PC = p + 1). -/
theorem test_vector_BR9 :
    Steps (start [0x70, 0xFF] [] { State.reset with pc := 0x8000, status := 0x40 })
      (fun s => { s with pc := 0x8001 }) := by decide

/-- V-BR10: BNE 0xFE loops on itself. -/
theorem test_vector_BR10 :
    Steps (start [0xD0, 0xFE] [] { State.reset with pc := 0x8000 })
      (fun s => { s with pc := 0x8000 }) := by decide

/-- V-BR11: BEQ not taken (Z=0). -/
theorem test_vector_BR11 :
    Steps (start [0xF0, 0x10] [] { State.reset with pc := 0x8000 })
      (fun s => { s with pc := 0x8002 }) := by decide

/-- V-BR12: BPL not taken (N=1). -/
theorem test_vector_BR12 :
    Steps (start [0x10, 0x10] [] { State.reset with pc := 0x8000, status := 0x80 })
      (fun s => { s with pc := 0x8002 }) := by decide

/-- V-BR13: BMI backward past 0x0000. -/
theorem test_vector_BR13 :
    Steps (start [0x30, 0xE0] [] { State.reset with pc := 0x0010, status := 0x80 })
      (fun s => { s with pc := 0xFFF2 }) := by decide

/-- V-JP1: JMP abs. -/
theorem test_vector_JP1 :
    Steps (start [0x4C, 0x34, 0x12] [] { State.reset with pc := 0x8000 })
      (fun s => { s with pc := 0x1234 }) := by decide

/-- V-JP3: JMP ind, page bug. -/
theorem test_vector_JP3 :
    Steps (start [0x6C, 0xFF, 0x30] [(0x3000, 0x50), (0x30FF, 0x80), (0x3100, 0x40)] { State.reset with pc := 0x8000 })
      (fun s => { s with pc := 0x5080 }) := by decide

/-- V-JP4: JMP ind at 0xFFFF. -/
theorem test_vector_JP4 :
    Steps (start [0x6C, 0xFF, 0xFF] [(0x0000, 0x33), (0xFF00, 0x22), (0xFFFF, 0x11)] { State.reset with pc := 0x8000 })
      (fun s => { s with pc := 0x2211 }) := by decide

/-- V-JP5: JSR. -/
theorem test_vector_JP5 :
    Steps (start [0x20, 0x05, 0x80] [] { State.reset with pc := 0x8000 })
      (fun s => { (s.writeByte 0x01FC 0x02).writeByte 0x01FD 0x80 with sp := 0xFB, pc := 0x8005 }) := by decide

/-- V-JP6: JSR with SP=0x00 wraps. -/
theorem test_vector_JP6 :
    Steps (start [0x20, 0x00, 0x90] [] { State.reset with pc := 0x8000, sp := 0x00 })
      (fun s => { (s.writeByte 0x0100 0x80).writeByte 0x01FF 0x02 with sp := 0xFE, pc := 0x9000 }) := by decide

/-- V-JP7: RTS. -/
theorem test_vector_JP7 :
    Steps (start [0x60] [(0x01FC, 0x02), (0x01FD, 0x80)] { State.reset with pc := 0x9000, sp := 0xFB })
      (fun s => { s with sp := 0xFD, pc := 0x8003 }) := by decide

/-- V-JP8: RTS with SP=0xFF wraps. -/
theorem test_vector_JP8 :
    Steps (start [0x60] [(0x0100, 0xFF), (0x0101, 0xFF)] { State.reset with pc := 0x9000, sp := 0xFF })
      (fun s => { s with sp := 0x01, pc := 0x0000 }) := by decide

/-- V-JP9: JMP to p+1: no generic advance. -/
theorem test_vector_JP9 :
    Steps (start [0x4C, 0x01, 0x80] [] { State.reset with pc := 0x8000 })
      (fun s => { s with pc := 0x8001 }) := by decide

/-- V-ST1: PHA. -/
theorem test_vector_ST1 :
    Steps (start [0x48] [] { State.reset with pc := 0x8000, a := 0x42 })
      (fun s => { s.writeByte 0x01FD 0x42 with sp := 0xFC, pc := 0x8001 }) := by decide

/-- V-ST2: PHA at SP=0x00 wraps. -/
theorem test_vector_ST2 :
    Steps (start [0x48] [] { State.reset with pc := 0x8000, a := 0x42, sp := 0x00 })
      (fun s => { s.writeByte 0x0100 0x42 with sp := 0xFF, pc := 0x8001 }) := by decide

/-- V-ST4: PLA 0x80 sets N. -/
theorem test_vector_ST4 :
    Steps (start [0x68] [(0x01FD, 0x80)] { State.reset with pc := 0x8000, sp := 0xFC })
      (fun s => { s with a := 0x80, sp := 0xFD, status := 0x80, pc := 0x8001 }) := by decide

/-- V-ST5: PLA at SP=0xFF wraps. -/
theorem test_vector_ST5 :
    Steps (start [0x68] [(0x0100, 0x01), (0x0200, 0x99)] { State.reset with pc := 0x8000, sp := 0xFF })
      (fun s => { s with a := 0x01, sp := 0x00, pc := 0x8001 }) := by decide

/-- V-ST7: PHP of 0xC3 pushes 0xF3. -/
theorem test_vector_ST7 :
    Steps (start [0x08] [] { State.reset with pc := 0x8000, status := 0xC3 })
      (fun s => { s.writeByte 0x01FD 0xF3 with sp := 0xFC, pc := 0x8001 }) := by decide

/-- V-ST8: PLP of 0xFF gives 0xCF. -/
theorem test_vector_ST8 :
    Steps (start [0x28] [(0x01FD, 0xFF)] { State.reset with pc := 0x8000, sp := 0xFC })
      (fun s => { s with sp := 0xFD, status := 0xCF, pc := 0x8001 }) := by decide

/-- V-ST9: PLP of 0x30 gives 0x00. -/
theorem test_vector_ST9 :
    Steps (start [0x28] [(0x01FD, 0x30)] { State.reset with pc := 0x8000, sp := 0xFC, status := 0xC3 })
      (fun s => { s with sp := 0xFD, status := 0x00, pc := 0x8001 }) := by decide

/-- V-FC1: SEC. -/
theorem test_vector_FC1 :
    Steps (start [0x38] [] { State.reset with pc := 0x8000 })
      (fun s => { s with status := 0x01, pc := 0x8001 }) := by decide

/-- V-FC2: CLC. -/
theorem test_vector_FC2 :
    Steps (start [0x18] [] { State.reset with pc := 0x8000, status := 0xCF })
      (fun s => { s with status := 0xCE, pc := 0x8001 }) := by decide

/-- V-FC3: CLI. -/
theorem test_vector_FC3 :
    Steps (start [0x58] [] { State.reset with pc := 0x8000, status := 0x04 })
      (fun s => { s with status := 0x00, pc := 0x8001 }) := by decide

/-- V-FC4: CLD. -/
theorem test_vector_FC4 :
    Steps (start [0xD8] [] { State.reset with pc := 0x8000, status := 0x08 })
      (fun s => { s with status := 0x00, pc := 0x8001 }) := by decide

/-- V-FC5: CLV. -/
theorem test_vector_FC5 :
    Steps (start [0xB8] [] { State.reset with pc := 0x8000, status := 0x40 })
      (fun s => { s with status := 0x00, pc := 0x8001 }) := by decide

/-- V-FC6: NOP. -/
theorem test_vector_FC6 :
    Steps (start [0xEA] [] { State.reset with pc := 0x8000, a := 0x12, status := 0x81 })
      (fun s => { s with pc := 0x8001 }) := by decide

/-- V-FC7: BRK halts, PC = p + 1. -/
theorem test_vector_FC7 :
    Steps (start [0x00] [] { State.reset with pc := 0x8000, a := 0x12, status := 0x81 })
      (fun s => { s with pc := 0x8001, run := .halted }) := by decide

/-- V-FC8: SEI with P_SEI_SED = false faults. -/
theorem test_vector_FC8 :
    Steps (start [0x78] [] { State.reset with pc := 0x8000 })
      (fun s => { s with pc := 0x8001, run := .faulted (.unimplementedOpcode 0x78 0x8000) }) := by decide

/-- V-FC9: SEI with P_SEI_SED = true. -/
theorem test_vector_FC9 :
    Steps (start [0x78] [] { State.reset with pc := 0x8000, pSeiSed := true })
      (fun s => { s with status := 0x04, pc := 0x8001 }) := by decide

/-- V-FC10: SED with P_SEI_SED = true. -/
theorem test_vector_FC10 :
    Steps (start [0xF8] [] { State.reset with pc := 0x8000, pSeiSed := true })
      (fun s => { s with status := 0x08, pc := 0x8001 }) := by decide

/-- V-FC11: SED with P_SEI_SED = false faults. -/
theorem test_vector_FC11 :
    Steps (start [0xF8] [] { State.reset with pc := 0x8000 })
      (fun s => { s with pc := 0x8001, run := .faulted (.unimplementedOpcode 0xF8 0x8000) }) := by decide

/-- V-FT1: unmapped 0x02. -/
theorem test_vector_FT1 :
    Steps (start [0x02, 0xA9] [] { State.reset with pc := 0x8000, a := 0x12 })
      (fun s => { s with pc := 0x8001, run := .faulted (.unimplementedOpcode 0x02 0x8000) }) := by decide

/-- V-FT3: unmapped 0xFF at 0xFFFF: PC wraps to 0. -/
theorem test_vector_FT3 :
    Steps (start [0xFF] [] { State.reset with pc := 0xFFFF })
      (fun s => { s with pc := 0x0000, run := .faulted (.unimplementedOpcode 0xFF 0xFFFF) }) := by decide

/-! ### Reset, load and the host's placing of a word -/

/-- V-RS1: reset reads the vector. -/
theorem test_vector_RS1 :
    (start [] [(0xFFFC, 0x34), (0xFFFD, 0x12)]
      { State.reset with a := 0x11, x := 0x22, y := 0x33, sp := 0x00, status := 0xCF, run := .halted }).resetOp =
      start [] [(0xFFFC, 0x34), (0xFFFD, 0x12)] { State.reset with pc := 0x1234 } := by
  decide

/-- V-RS2: reset from Faulted keeps memory and empties the fault record. -/
theorem test_vector_RS2 :
    (start [] [(0x01FD, 0x80), (0x0200, 0x42), (0xFFFD, 0x80)]
      { State.reset with sp := 0x12, run := .faulted (.unimplementedOpcode 0x02 0x8000) }).resetOp =
      start [] [(0x01FD, 0x80), (0x0200, 0x42), (0xFFFD, 0x80)] { State.reset with pc := 0x8000 } := by
  decide

/-- V-RS3: load writes the image and the vector. -/
theorem test_vector_RS3 :
    (load [0xA9, 0x01, 0x00] State.reset).mem = [(0x8000, 0xA9), (0x8001, 0x01), (0xFFFD, 0x80)] := by decide

/-- V-RS5: the first step of a never-loaded core executes 0x00 as BRK. -/
theorem test_vector_RS5 : Steps State.reset (fun s => { s with pc := 0x0001, run := .halted }) := by decide

/-- A Halted core and a Faulted core take no step (R26, R67). -/
theorem test_no_step_when_not_running :
    nextOf (step { State.reset with run := .halted }) = none ∧
    nextOf (step { State.reset with run := .faulted .unsupportedAddressingMode }) = none := by
  decide

/-- A placed word is the next instruction to run, and the two opcodes that need P_SEI_SED get it. -/
theorem test_withFetchWord :
    nextOf (step (State.reset.withFetchWord 16 0x42A9)) =
      some { State.reset.withFetchWord 16 0x42A9 with a := 0x42, pc := 0x0002 } ∧
    nextOf (step (State.reset.withFetchWord 8 0xF8)) =
      some { State.reset.withFetchWord 8 0xF8 with status := 0x08, pc := 0x0001 } ∧
    (State.reset.withFetchWord 8 0xF8).pSeiSed = true ∧ (State.reset.withFetchWord 16 0x42A9).pSeiSed = false := by
  decide

/-! ### Witnesses: states and operands that meet a statement's hypotheses, one conjunct per clause -/

theorem witness_DecodeEncodeRoundTrip :
    Instr.wf false (.ldaAbs 0xFFFF) = true ∧ Instr.wf false .brk = true ∧ Instr.wf true .sei = true := by decide

theorem witness_DecodedBytesAreTheEncoding : decode false [0xBD, 0xFF, 0x12, 0x00] = .ok (.ldaAbsx 0x12FF, [0x00]) := rfl

/-- Addresses at the wrap of the word accessors: 0xFFFF, its second byte 0x0000, and 0x0001 beside them. -/
theorem witness_WordAccessorsAreLittleEndian : (1 % 65536 ≠ 0xFFFF % 65536) ∧ (1 % 65536 ≠ (0xFFFF + 1) % 65536) := by
  decide

theorem witness_CanonicalMemoriesReadingAlikeAreEqual :
    Memory.wf [(0x0010, 0x55), (0xFFFF, 0x01)] ∧
    ∀ a, a < 65536 → Memory.get [(0x0010, 0x55), (0xFFFF, 0x01)] a = Memory.get [(0x0010, 0x55), (0xFFFF, 0x01)] a :=
  ⟨by decide, fun _ _ => rfl⟩

/-- An operand word whose second byte lies past 0xFFFF. -/
theorem witness_DecodedOperandsResolveAlike :
    ∀ k, k < (MemOperand.bytes (.absx 0x1234)).length →
      (MemOperand.bytes (.absx 0x1234))[k]? =
        some ((start [0x34, 0x12] [] { State.reset with pc := 0xFFFF }).readByte (0xFFFF + BitVec.ofNat 16 k)) := by
  decide

theorem witness_LoadsTakeOperandAndSetZN :
    ((Instr.ldaIndy 0xFF).operand = .mem (.indy 0xFF) ∧ (Instr.ldaIndy 0xFF).mnemonic = .lda) ∧
    ((Instr.ldxZpy 0xFF).operand = .mem (.zpy 0xFF) ∧ (Instr.ldxZpy 0xFF).mnemonic = .ldx) ∧
    ((Instr.ldyImm 0x00).operand = .mem (.imm 0x00) ∧ (Instr.ldyImm 0x00).mnemonic = .ldy) := by
  decide

theorem witness_StoresWriteOneByteAndNoFlag :
    ((Instr.staAbsx 0xFFFF).operand = .mem (.absx 0xFFFF) ∧ (Instr.staAbsx 0xFFFF).mnemonic = .sta) ∧
    ((Instr.stxZpy 0xFF).operand = .mem (.zpy 0xFF) ∧ (Instr.stxZpy 0xFF).mnemonic = .stx) ∧
    ((Instr.styZpx 0x00).operand = .mem (.zpx 0x00) ∧ (Instr.styZpx 0x00).mnemonic = .sty) := by
  decide

theorem witness_MemoryIncrementsWrap :
    ((Instr.incZpx 0xFF).operand = .mem (.zpx 0xFF) ∧ (Instr.incZpx 0xFF).mnemonic = .inc) ∧
    ((Instr.decAbsx 0xFFFF).operand = .mem (.absx 0xFFFF) ∧ (Instr.decAbsx 0xFFFF).mnemonic = .dec) := by
  decide

theorem witness_LogicalOperationsOnA :
    ((Instr.andImm 0x80).operand = .mem (.imm 0x80) ∧ (Instr.andImm 0x80).mnemonic = .and) ∧
    ((Instr.oraIndx 0xFF).operand = .mem (.indx 0xFF) ∧ (Instr.oraIndx 0xFF).mnemonic = .ora) ∧
    ((Instr.eorAbsy 0xFFFF).operand = .mem (.absy 0xFFFF) ∧ (Instr.eorAbsy 0xFFFF).mnemonic = .eor) := by
  decide

theorem witness_ShiftsMoveOutOneBit :
    (Instr.aslAcc.mnemonic = .asl ∧ Instr.aslAcc.operand = .acc) ∧
    ((Instr.aslZpx 0xFF).mnemonic = .asl ∧ (Instr.aslZpx 0xFF).operand = .mem (.zpx 0xFF)) ∧
    (Instr.lsrAcc.mnemonic = .lsr ∧ Instr.lsrAcc.operand = .acc) ∧
    ((Instr.lsrAbs 0xFFFF).mnemonic = .lsr ∧ (Instr.lsrAbs 0xFFFF).operand = .mem (.abs 0xFFFF)) ∧
    exec .lsrAcc { State.reset with a := 0xFF } = .next (shiftA lsrFn { State.reset with a := 0xFF }) := by
  refine ⟨by decide, by decide, by decide, by decide, rfl⟩

theorem witness_RotatesMoveThroughCarry :
    (Instr.rolAcc.mnemonic = .rol ∧ Instr.rolAcc.operand = .acc) ∧
    ((Instr.rolZp 0x00).mnemonic = .rol ∧ (Instr.rolZp 0x00).operand = .mem (.zp 0x00)) ∧
    (Instr.rorAcc.mnemonic = .ror ∧ Instr.rorAcc.operand = .acc) ∧
    ((Instr.rorAbsx 0xFFFF).mnemonic = .ror ∧ (Instr.rorAbsx 0xFFFF).operand = .mem (.absx 0xFFFF)) := by
  decide

theorem witness_AddWithCarry :
    (Instr.adcIndx 0xFF).operand = .mem (.indx 0xFF) ∧ (Instr.adcIndx 0xFF).mnemonic = .adc := by decide

theorem witness_SubtractWithBorrow :
    (Instr.sbcImm 0xFF).operand = .mem (.imm 0xFF) ∧ (Instr.sbcImm 0xFF).mnemonic = .sbc := by decide

theorem witness_OverflowIsSignedOverflow :
    ((Instr.adcImm 0x7F).operand = .mem (.imm 0x7F) ∧ (Instr.adcImm 0x7F).mnemonic = .adc) ∧
    ((Instr.sbcImm 0x80).operand = .mem (.imm 0x80) ∧ (Instr.sbcImm 0x80).mnemonic = .sbc) := by
  decide

theorem witness_ComparesSetCZN :
    ((Instr.cmpImm 0x00).operand = .mem (.imm 0x00) ∧ (Instr.cmpImm 0x00).mnemonic = .cmp) ∧
    ((Instr.cpxAbs 0xFFFF).operand = .mem (.abs 0xFFFF) ∧ (Instr.cpxAbs 0xFFFF).mnemonic = .cpx) ∧
    ((Instr.cpyZp 0xFF).operand = .mem (.zp 0xFF) ∧ (Instr.cpyZp 0xFF).mnemonic = .cpy) := by
  decide

theorem witness_BitTestsOperand :
    (Instr.bitAbs 0xFFFF).operand = .mem (.abs 0xFFFF) ∧ (Instr.bitAbs 0xFFFF).mnemonic = .bit := by decide

/-- The SP that wraps: the JSR at SP = 0x00 leaves SP = 0xFE. -/
theorem witness_RtsReturnsAfterJsr :
    exec (.jsr 0x9000) { State.reset with sp := 0x00, pc := 0x8001 } =
      .next (callTo 0x9000 { State.reset with sp := 0x00, pc := 0x8001 }) ∧
    (callTo 0x9000 { State.reset with sp := 0x00, pc := 0x8001 }).sp = 0xFE :=
  ⟨rfl, rfl⟩

theorem witness_StackRoundTripsRestore :
    State.flag { State.reset with status := 0xCF } .B = false ∧ State.flag { State.reset with status := 0xCF } .B2 = false := by
  decide

/-- One state per clause: 0x78 and 0xF8 with the parameter, 0x78 and 0xF8 without it. -/
theorem witness_SeiSedUnderParameter :
    (start [0x78] [] { State.reset with pSeiSed := true }).run = .running ∧
    (start [0x78] [] { State.reset with pSeiSed := true }).pSeiSed = true ∧
    (start [0xF8] [] { State.reset with pSeiSed := true }).run = .running ∧
    (start [0xF8] [] { State.reset with pSeiSed := true }).pSeiSed = true ∧
    (start [0x78] [] { State.reset with pSeiSed := true }).readByte 0x0000 = 0x78 ∧
    (start [0xF8] [] { State.reset with pSeiSed := true }).readByte 0x0000 = 0xF8 ∧
    (start [0x78] [] State.reset).run = .running ∧ (start [0x78] [] State.reset).pSeiSed = false ∧
    (start [0xF8] [] State.reset).pSeiSed = false ∧ (start [0x78] [] State.reset).readByte 0x0000 = 0x78 ∧
    (start [0xF8] [] State.reset).readByte 0x0000 = 0xF8 ∧ (start [0xF8] [] State.reset).run = .running := by
  decide

theorem witness_BrkHalts : State.reset.run = .running ∧ State.reset.readByte State.reset.pc = 0x00 := by decide

/-- An instruction that wraps past 0xFFFF, as V-AM18. -/
theorem witness_StepRunsDecodedInstruction :
    (start [0xAD, 0x00, 0x02] [] { State.reset with pc := 0xFFFE }).run = .running ∧
    decode false (start [0xAD, 0x00, 0x02] [] { State.reset with pc := 0xFFFE }).fetchBytes = .ok (.ldaAbs 0x0200, []) :=
  ⟨rfl, rfl⟩

theorem witness_StepRunsEncodedInstruction :
    (start [0xAD, 0x00, 0x02] [] { State.reset with pc := 0xFFFE }).run = .running ∧
    Instr.wf false (.ldaAbs 0x0200) = true ∧
    ∀ k, k < (encode (.ldaAbs 0x0200)).length →
      (encode (.ldaAbs 0x0200))[k]? =
        some ((start [0xAD, 0x00, 0x02] [] { State.reset with pc := 0xFFFE }).readByte (0xFFFE + BitVec.ofNat 16 k)) := by
  decide

theorem witness_UnmappedOpcodeFaults :
    (start [0xFF] [] { State.reset with pc := 0xFFFF }).run = .running ∧
    table false ((start [0xFF] [] { State.reset with pc := 0xFFFF }).readByte 0xFFFF) = none := by
  decide

theorem witness_OnlyRunningCoreSteps :
    State.run { State.reset with run := .halted } = .halted ∧
    State.run { State.reset with run := .faulted .unsupportedAddressingMode } = .faulted .unsupportedAddressingMode ∧
    State.reset.run = .running := by
  decide

theorem witness_MappedInstructionsNeverFault :
    State.reset.run = .running ∧ nextOf (step State.reset) ≠ none ∧
    (start [0x02] [] State.reset).run = .running ∧ nextOf (step (start [0x02] [] State.reset)) ≠ none := by
  decide

theorem witness_NonRedirectingAdvanceByLength :
    (start [0xAD, 0x00, 0x02] [] { State.reset with pc := 0xFFFE }).run = .running ∧
    redirecting (Instr.mnemonic (.ldaAbs 0x0200)) = false ∧
    decode false (start [0xAD, 0x00, 0x02] [] { State.reset with pc := 0xFFFE }).fetchBytes = .ok (.ldaAbs 0x0200, []) :=
  ⟨rfl, by decide, rfl⟩

theorem witness_FlagsWrittenOnlyByTheirWriters :
    exec (.ldaImm 0x80) State.reset = .next ((loadA 0x80 State.reset).advance 1) ∧
    Instr.mnemonic (.ldaImm 0x80) ∉ flagWriters .C :=
  ⟨rfl, by decide⟩

theorem witness_RegistersWrittenOnlyByTheirWriters :
    exec (.aslZp 0x10) State.reset = .next ((shiftAt aslFn 0x0010 State.reset).advance 1) ∧
    Instr.mnemonic (.aslZp 0x10) ∉ regWriters .X ∧ Instr.mnemonic (.aslZp 0x10) ∈ [Mnemonic.asl, .lsr, .rol, .ror] ∧
    Instr.operand (.aslZp 0x10) ≠ .acc ∧ Instr.operand .aslAcc = .acc :=
  ⟨rfl, by decide, by decide, by decide, rfl⟩

theorem witness_InterruptAndDecimalFlagsAreInert :
    nextOf (step (start [0x69, 0x01] [] State.reset)) ≠ none ∧ (start [0x69, 0x01] [] State.reset).readByte 0x0000 ≠ 0x08 ∧
    ((nextOf (step (start [0x69, 0x01] [] State.reset))).map State.run) = some .running := by
  decide

theorem witness_StepIsTheDispatchLoop : State.reset.run = .running := rfl

theorem witness_StepKeepsMemoryCanonical :
    Memory.wf (start [0x85, 0x10] [] State.reset).mem ∧ nextOf (step (start [0x85, 0x10] [] State.reset)) ≠ none := by
  decide

theorem witness_StepKeepsBreakFlagsClear :
    State.flag (start [0x28] [(0x01FE, 0xFF)] State.reset) .B = false ∧
    State.flag (start [0x28] [(0x01FE, 0xFF)] State.reset) .B2 = false ∧
    ((nextOf (step (start [0x28] [(0x01FE, 0xFF)] State.reset))).map State.run) = some .running := by
  decide

theorem witness_ReachableStatesKeepInvariant : Reachable State.reset := Reachable.firstReset false

/-- The first byte of an image and an address outside it that is not the vector's. -/
theorem witness_LoadPlacesImageAndVector :
    (0 < [(0xA9 : Byte), 0x01].length ∧ [(0xA9 : Byte), 0x01].length ≤ 0 + 65536 ∧ (0x8000 + 0) % 65536 ≠ 0xFFFC ∧
      (0x8000 + 0) % 65536 ≠ 0xFFFD) ∧
    (∀ k, k < [(0xA9 : Byte), 0x01].length → (0x8000 + k) % 65536 ≠ 0x8002) := by
  decide

theorem witness_RunIsResumable :
    State.run { State.reset with run := .halted } ≠ .running ∧ nextOf (step State.reset) ≠ none := by decide

end Sys2Proof.Machine
end

section
/-! PROOF. The status byte as its eight flags, and the write of one flag (spec/10_state.md R10, R20). -/

namespace Sys2Proof.Machine

/-- A flag is the binary digit of the status byte at the flag's position (R20). -/
theorem getFlag_toNat (f : Flag) (p : Byte) : (getFlag f p).toNat = p.toNat / 2 ^ f.bit % 2 := by
  rw [getFlag, ← BitVec.testBit_toNat, Nat.toNat_testBit]

/-- The status byte has no digit beyond the eight flags, so it is the sum of its flags at their positions (R20). -/
theorem status_toNat_eq_sum_flags (p : Byte) :
    p.toNat =
      (getFlag .C p).toNat * 0x01 + (getFlag .Z p).toNat * 0x02 + (getFlag .I p).toNat * 0x04 +
      (getFlag .D p).toNat * 0x08 + (getFlag .B p).toNat * 0x10 + (getFlag .B2 p).toNat * 0x20 +
      (getFlag .V p).toNat * 0x40 + (getFlag .N p).toNat * 0x80 := by
  have hp := p.isLt
  simp only [getFlag_toNat, Flag.bit]
  omega

/-- Settles O10: the sum is the binary expansion of the status byte, the frame is that of a flag write. -/
theorem statusPacksItsFlags : Obligations.StatusPacksItsFlags := by
  intro s f on
  have hread : (s.setFlag f on).flag f = on := by simp
  have hmem : MemorySame s (s.setFlag f on) := s.setFlag_readByte f on
  exact ⟨status_toNat_eq_sum_flags s.status, hread, keeps_setFlag s f on, hmem, s.setFlag_pc f on⟩

end Sys2Proof.Machine
end

section
/-! PROOF. The host's byte accessors and the stack in numbers: a read after a write, a push, a pull (spec/20_memory.md
R34, R35, R40 to R42). -/

namespace Sys2Proof.Machine

/-- A host read masks its address to 16 bits (R34). -/
theorem hostReadByte_eq_get (s : State) (addr : Nat) : hostReadByte s addr = Memory.get s.mem (addr % 65536) := by
  rw [hostReadByte, State.readByte, BitVec.toNat_ofNat]

/-- A host read of a word's number is the read at that word. -/
theorem hostReadByte_toNat (s : State) (addr : Word) : hostReadByte s addr.toNat = s.readByte addr := by
  rw [hostReadByte, BitVec.ofNat_toNat, BitVec.setWidth_eq]

/-- A host read after a byte write: the written byte where the masked address is the written one (R34, R35). -/
theorem hostReadByte_writeByte (s : State) (addr : Word) (v : Byte) (b : Nat) :
    hostReadByte (s.writeByte addr v) b = if b % 65536 = addr.toNat then v else hostReadByte s b := by
  rw [hostReadByte_eq_get, hostReadByte_eq_get, State.writeByte_mem, Memory.get_set]

/-- Settles O6: both addresses are masked, and the written byte is the value modulo 256. -/
theorem byteAccessorsMaskAndStore : Obligations.ByteAccessorsMaskAndStore := by
  intro s addr value b
  have hread : hostReadByte (hostWriteByte s addr value) b =
      if b % 65536 = addr % 65536 then BitVec.ofNat 8 (value % 256) else hostReadByte s b := by
    have hvalue : BitVec.ofNat 8 value = BitVec.ofNat 8 (value % 256) := by simp [← BitVec.toNat_inj]
    rw [hostWriteByte, hostReadByte_writeByte, BitVec.toNat_ofNat, hvalue]
  exact ⟨hostReadByte_eq_get s addr, hread, keeps_writeByte s _ _, s.writeByte_pc _ _⟩

/-- The stack page is page 1, and no slot leaves it (R40). -/
theorem stackSlot_toNat (sp : Byte) : (State.stackSlot sp).toNat = 0x0100 + sp.toNat := by
  have := sp.isLt
  rw [State.stackSlot, BitVec.toNat_add, zext16_toNat, show Config.stackPage.toNat = 0x0100 from rfl]
  omega

/-- The byte a pull returns, by the number of its slot: SP is incremented modulo 256 before the read (R42). -/
theorem pulled_eq_hostReadByte (s : State) : s.pulled = hostReadByte s (0x0100 + (s.sp.toNat + 1) % 256) := by
  have hslot : 0x0100 + (s.sp.toNat + 1) % 256 = (State.stackSlot (s.sp + 1)).toNat := by
    rw [stackSlot_toNat, BitVec.toNat_add]; rfl
  rw [hslot, hostReadByte_toNat, State.pulled]

/-- Settles O8: a push is a byte write at the slot of SP with SP decremented, a pull writes SP alone. -/
theorem pushWritesThenPullReads : Obligations.PushWritesThenPullReads := by
  intro s v
  have hread (b : Nat) : hostReadByte (s.push v) b =
      if b % 65536 = 0x0100 + s.sp.toNat then v else hostReadByte s b := by
    rw [← stackSlot_toNat]
    exact hostReadByte_writeByte s _ v b
  have hdec : (s.push v).sp.toNat = (s.sp.toNat + 255) % 256 := by
    rw [State.push_sp, BitVec.toNat_sub, Nat.add_comm]; rfl
  have hinc : s.afterPull.sp.toNat = (s.sp.toNat + 1) % 256 := by
    rw [State.afterPull_sp, BitVec.toNat_add]; rfl
  exact ⟨hread, hdec, keeps_push s v, s.push_pc v, hinc, pulled_eq_hostReadByte s, keeps_afterPull s,
    s.afterPull_readByte, s.afterPull_pc⟩

end Sys2Proof.Machine
end

section
/-! PROOF. Who writes the registers, the flags and memory: the frame of every mnemonic's meaning, from the frames of its
effect and of the shape of its access (spec/10_state.md R16 to R19, R21; spec/20_memory.md R46). -/

namespace Sys2Proof.Machine

/-! ### Frames of the shapes of an instruction's access to its operand -/

theorem keeps_advance (regs : List Reg) (flags : List Flag) (s : State) (width : Nat) :
    Keeps regs flags s (s.advance width) :=
  (keeps_setPC s _).mono (by simp) (by simp)

theorem keeps_afterReading {regs : List Reg} {flags : List Flag} {f : Byte → State → State}
    (h : ∀ m s, Keeps regs flags s (f m s)) (x : Operand) (s : State) : Keeps regs flags s (afterReading f x s) := by
  cases x with
  | mem o => exact (h _ s).trans (keeps_advance ..)
  | _ => exact .refl ..

theorem keeps_afterAt {regs : List Reg} {flags : List Flag} {f : Word → State → State}
    (h : ∀ ea s, Keeps regs flags s (f ea s)) (x : Operand) (s : State) : Keeps regs flags s (afterAt f x s) := by
  cases x with
  | mem o => exact (h _ s).trans (keeps_advance ..)
  | _ => exact .refl ..

/-- In every form but the accumulator's a shift or rotate is its effect at the effective address (R101). -/
theorem afterShift_of_ne_acc (f : Byte → Bool → Byte × Bool) {x : Operand} (h : x ≠ .acc) (s : State) :
    afterShift f x s = afterAt (shiftAt f) x s := by
  cases x with
  | acc => exact absurd rfl h
  | _ => rfl

theorem keeps_afterShift (f : Byte → Bool → Byte × Bool) (x : Operand) (s : State) :
    Keeps [.A] [.C, .Z, .N] s (afterShift f x s) := by
  by_cases hx : x = .acc
  · subst hx; exact keeps_shiftA f s
  · rw [afterShift_of_ne_acc f hx]
    exact (keeps_afterAt (keeps_shiftAt f) x s).mono (by simp) (by simp)

theorem keeps_afterBranch (cond : Bool) (x : Operand) (s : State) : Keeps [] [] s (afterBranch cond x s) := by
  cases x with
  | rel b => exact keeps_setPC s _
  | _ => exact .refl ..

theorem keeps_afterJump (x : Operand) (s : State) : Keeps [] [] s (afterJump x s) := by
  cases x with
  | jabs w => exact keeps_setPC s w
  | ind w => exact keeps_setPC s _
  | _ => exact .refl ..

theorem keeps_afterCall (x : Operand) (s : State) : Keeps [.SP] [] s (afterCall x s) := by
  cases x with
  | jabs w => exact keeps_callTo w s
  | _ => exact .refl ..

theorem keeps_pullStatus (s : State) : Keeps [.SP] [.C, .Z, .I, .D, .B, .B2, .V, .N] s (pullStatus s) :=
  ⟨(keeps_afterPull s).1, fun f hf => absurd (by cases f <;> decide) hf, rfl, rfl⟩

/-! ### The frame of every mnemonic -/

/-- From `s` to `t` only the registers and flags that name the mnemonic as a writer may differ (R16 to R19, R21), and not
P_SEI_SED. Unlike `Keeps` it leaves the run state open, which BRK writes. -/
def WritesAsListed (m : Mnemonic) (s t : State) : Prop :=
  (∀ r, m ∉ regWriters r → t.reg r = s.reg r) ∧ (∀ f, m ∉ flagWriters f → t.flag f = s.flag f) ∧ t.pSeiSed = s.pSeiSed

/-- A frame gives a mnemonic's when the mnemonic is a listed writer of all that the frame leaves open,
which is decided where the lemma is used. -/
theorem Keeps.writesAsListed {m : Mnemonic} {regs : List Reg} {flags : List Flag} {s t : State} (h : Keeps regs flags s t)
    (hr : ∀ r ∈ regs, m ∈ regWriters r := by decide) (hf : ∀ f ∈ flags, m ∈ flagWriters f := by decide) :
    WritesAsListed m s t :=
  ⟨fun r hm => h.1 r (mt (hr r) hm), fun f hm => h.2.1 f (mt (hf f) hm), h.2.2.2⟩

/-- Every mnemonic's meaning has the mnemonic's frame: that of its effect, carried through the shape of its access. AND, ORA
and EOR load A; the transfers, increments and decrements load their register. -/
theorem after_writesAsListed (m : Mnemonic) (x : Operand) (s : State) : WritesAsListed m s (after m x s) := by
  cases m with
  | lda => exact (keeps_afterReading keeps_loadA x s).writesAsListed
  | and => exact (keeps_afterReading (f := andA) (fun _ s => keeps_loadA _ s) x s).writesAsListed
  | ora => exact (keeps_afterReading (f := orA) (fun _ s => keeps_loadA _ s) x s).writesAsListed
  | eor => exact (keeps_afterReading (f := xorA) (fun _ s => keeps_loadA _ s) x s).writesAsListed
  | ldx => exact (keeps_afterReading keeps_loadX x s).writesAsListed
  | ldy => exact (keeps_afterReading keeps_loadY x s).writesAsListed
  | adc => exact (keeps_afterReading keeps_addToA x s).writesAsListed
  | sbc => exact (keeps_afterReading (f := subtractFromA) (fun _ s => keeps_addToA _ s) x s).writesAsListed
  | cmp | cpx | cpy => exact (keeps_afterReading (keeps_compareBytes _) x s).writesAsListed
  | bit => exact (keeps_afterReading keeps_bitTest x s).writesAsListed
  | sta | stx | sty => exact (keeps_afterAt (fun ea s => keeps_writeByte s ea _) x s).writesAsListed
  | inc => exact (keeps_afterAt keeps_incrementAt x s).writesAsListed
  | dec => exact (keeps_afterAt keeps_decrementAt x s).writesAsListed
  | asl | lsr | rol | ror => exact (keeps_afterShift _ x s).writesAsListed
  | txa | tya => exact (keeps_loadA _ s).writesAsListed
  | tax | tsx | inx | dex => exact (keeps_loadX _ s).writesAsListed
  | tay | iny | dey => exact (keeps_loadY _ s).writesAsListed
  | txs => exact (keeps_setSP s _).writesAsListed
  | pha | php => exact (keeps_push s _).writesAsListed
  | pla => exact (keeps_pullA s).writesAsListed
  | plp => exact (keeps_pullStatus s).writesAsListed
  | jsr => exact (keeps_afterCall x s).writesAsListed
  | rts => exact (keeps_returnFromCall s).writesAsListed
  | jmp => exact (keeps_afterJump x s).writesAsListed
  | bcc | bcs | beq | bne | bmi | bpl | bvc | bvs => exact (keeps_afterBranch _ x s).writesAsListed
  | sec | clc | cli | cld | clv | sei | sed => exact (keeps_setFlag s _ _).writesAsListed
  | nop => exact (Keeps.refl [] [] s).writesAsListed
  | brk => exact ⟨fun r _ => s.halt_reg r, fun f _ => s.halt_flag f, s.halt_pSeiSed⟩

/-- A shift or rotate in a memory form leaves A (R101). -/
theorem after_a_of_shift {m : Mnemonic} {x : Operand} (hm : m ∈ [.asl, .lsr, .rol, .ror]) (hx : x ≠ .acc) (s : State) :
    (after m x s).a = s.a := by
  have hshift (f : Byte → Bool → Byte × Bool) : (afterShift f x s).a = s.a := by
    rw [afterShift_of_ne_acc f hx]
    exact (keeps_afterAt (keeps_shiftAt f) x s).1 .A (by simp)
  simp only [List.mem_cons, List.not_mem_nil, or_false] at hm
  obtain rfl | rfl | rfl | rfl := hm <;> exact hshift _

/-! ### Memory -/

theorem afterReading_mem {f : Byte → State → State} (h : ∀ m s, (f m s).mem = s.mem) (x : Operand) (s : State) :
    (afterReading f x s).mem = s.mem := by
  cases x with
  | mem o => exact h _ s
  | _ => rfl

theorem afterBranch_mem (cond : Bool) (x : Operand) (s : State) : (afterBranch cond x s).mem = s.mem := by
  cases x <;> rfl

theorem afterJump_mem (x : Operand) (s : State) : (afterJump x s).mem = s.mem := by
  cases x <;> rfl

/-- The mnemonics some form of which writes memory: the stores, INC, DEC, the shifts and rotates, and the pushes (R46). -/
def memWriters : List Mnemonic := [.sta, .stx, .sty, .inc, .dec, .asl, .lsr, .rol, .ror, .pha, .php, .jsr]

/-- Every other mnemonic leaves memory: it reads its operand, moves PC, or is implied and writes a register or flags. -/
theorem after_mem {m : Mnemonic} (h : m ∉ memWriters) (x : Operand) (s : State) : (after m x s).mem = s.mem := by
  cases m with
  | sta | stx | sty | inc | dec | asl | lsr | rol | ror | pha | php | jsr => exact absurd (by decide) h
  | lda | ldx | ldy | and | ora | eor | adc | sbc | cmp | cpx | cpy | bit =>
    exact afterReading_mem (by intros; rfl) x s
  | bcc | bcs | beq | bne | bmi | bpl | bvc | bvs => exact afterBranch_mem _ x s
  | jmp => exact afterJump_mem x s
  | _ => rfl

/-- Only a shift or rotate has an accumulator form (R52, R101). -/
theorem mnemonic_of_operand_acc {i : Instr} (h : i.operand = .acc) : i.mnemonic ∈ [.asl, .lsr, .rol, .ror] := by
  cases i with
  | aslAcc | lsrAcc | rolAcc | rorAcc => decide
  | _ => cases h

/-- A shift or rotate of the accumulator leaves memory (R101). -/
theorem after_acc_mem {m : Mnemonic} (hm : m ∈ [.asl, .lsr, .rol, .ror]) (s : State) : (after m .acc s).mem = s.mem := by
  simp only [List.mem_cons, List.not_mem_nil, or_false] at hm
  obtain rfl | rfl | rfl | rfl := hm <;> rfl

/-- Settles O48: `exec` answers the meaning of the mnemonic and the operand, whose frame is `after_writesAsListed`; for memory, the
accumulator forms are those of the shifts and rotates alone. -/
theorem registersWrittenOnlyByTheirWriters : Obligations.RegistersWrittenOnlyByTheirWriters := by
  intro i s t h
  rw [exec_eq_after, Host.Outcome.next.injEq] at h
  subst h
  obtain ⟨hreg, -, hpSeiSed⟩ := after_writesAsListed i.mnemonic i.operand s
  refine ⟨hreg, fun hm hx => after_a_of_shift hm hx s, ?_, hpSeiSed⟩
  rintro (hm | hx)
  · exact after_mem hm i.operand s
  · rw [hx]
    exact after_acc_mem (mnemonic_of_operand_acc hx) s

end Sys2Proof.Machine
end

section
/-! PROOF. The addressing modes in numbers: an indexed address in and outside the zero page, the zero-page pointer, and the
resolver that forms addresses from them (spec/40 R69 to R77). -/

namespace Sys2Proof.Machine

/-- An index added within the zero page wraps modulo 256 (R71, R72, R76). -/
theorem zext16_add_toNat (base index : Byte) : (zext16 (base + index)).toNat = (base.toNat + index.toNat) % 256 := by
  rw [zext16_toNat, BitVec.toNat_add]

/-- An index added to a word wraps modulo 65536 (R74, R75, R77). -/
theorem add_zext16_toNat (w : Word) (index : Byte) : (w + zext16 index).toNat = (w.toNat + index.toNat) % 65536 := by
  rw [BitVec.toNat_add, zext16_toNat]

/-- A read in the zero page, by the number of the byte's address. -/
theorem readByte_zext16 (s : State) (b : Byte) : s.readByte (zext16 b) = hostReadByte s b.toNat := by
  rw [← zext16_toNat, hostReadByte_toNat]

/-- A zero-page pointer is little-endian, and its second byte is read at `base + 1` modulo 256 (R76, R77). -/
theorem zeroPagePointer_toNat (base : Byte) (s : State) :
    (zeroPagePointer base s).toNat =
      (hostReadByte s base.toNat).toNat + 256 * (hostReadByte s ((base.toNat + 1) % 256)).toNat := by
  have hnext : (base + 1).toNat = (base.toNat + 1) % 256 := BitVec.toNat_add base 1
  rw [zeroPagePointer, word_toNat, readByte_zext16, readByte_zext16, hnext]
  omega

/-- What the resolver answers, by the number of the address. -/
theorem resolve_eq_ofNat {tag : ModeTag} {s : State} {ea : Word} {n : Nat} (h : resolve tag s = .ok ea)
    (hn : ea.toNat = n) : resolve tag s = .ok (BitVec.ofNat 16 n) := by
  rw [h, ← hn, BitVec.ofNat_toNat, BitVec.setWidth_eq]

/-- Settles O12: each mode's address is a zero-page byte, a word or a zero-page pointer, indexed or not, and the lemmas above
give its number. -/
theorem resolverComputesEachMode : Obligations.ResolverComputesEachMode := by
  intro s b1 w pointer
  have hindirectX : (zeroPagePointer (s.readByte s.pc + s.x) s).toNat = pointer ((b1 + s.x.toNat) % 256) := by
    rw [zeroPagePointer_toNat, BitVec.toNat_add]
  have hindirectY : (zeroPagePointer (s.readByte s.pc) s + zext16 s.y).toNat = (pointer b1 + s.y.toNat) % 65536 := by
    rw [add_zext16_toNat, zeroPagePointer_toNat]
  refine ⟨rfl, ?zeroPage, ?zeroPageX, ?zeroPageY, ?absolute, ?absoluteX, ?absoluteY, ?indirectX, ?indirectY⟩
  case zeroPage => exact resolve_eq_ofNat rfl (zext16_toNat _)
  case zeroPageX => exact resolve_eq_ofNat rfl (zext16_add_toNat _ s.x)
  case zeroPageY => exact resolve_eq_ofNat rfl (zext16_add_toNat _ s.y)
  case absolute => exact resolve_eq_ofNat rfl rfl
  case absoluteX => exact resolve_eq_ofNat rfl (add_zext16_toNat _ s.x)
  case absoluteY => exact resolve_eq_ofNat rfl (add_zext16_toNat _ s.y)
  case indirectX => exact resolve_eq_ofNat rfl hindirectX
  case indirectY => exact resolve_eq_ofNat rfl hindirectY

end Sys2Proof.Machine
end

section
/-! PROOF. Loads, stores and transfers: what a loaded register and a stored byte leave, carried through the access to the
operand (spec/41_load_store_transfer.md R80 to R91). -/

namespace Sys2Proof.Machine

/-! ### Loading a register -/

/-- From `s` to `t` the register takes `v`, Z and N come from `v`, PC becomes `next`, and nothing else changes (R80 to R82,
R86 to R90). -/
def LoadsRegister (r : Reg) (v : Byte) (next : Word) (s t : State) : Prop :=
  t.reg r = v ∧ ZeroNegativeOf v t ∧ Keeps [r] [.Z, .N] s t ∧ MemorySame s t ∧ t.pc = next

theorem loadsRegister_loadA (m : Byte) (s : State) : LoadsRegister .A m s.pc s (loadA m s) :=
  ⟨rfl, zeroNegativeOf_setZN _ m, keeps_loadA m s, fun _ => rfl, rfl⟩

theorem loadsRegister_loadX (m : Byte) (s : State) : LoadsRegister .X m s.pc s (loadX m s) :=
  ⟨rfl, zeroNegativeOf_setZN _ m, keeps_loadX m s, fun _ => rfl, rfl⟩

theorem loadsRegister_loadY (m : Byte) (s : State) : LoadsRegister .Y m s.pc s (loadY m s) :=
  ⟨rfl, zeroNegativeOf_setZN _ m, keeps_loadY m s, fun _ => rfl, rfl⟩

/-- The generic advance moves PC past the operand and leaves the rest of a load (R63). -/
theorem LoadsRegister.advance {r : Reg} {v : Byte} {next : Word} {s t : State} (h : LoadsRegister r v next s t)
    (width : Nat) : LoadsRegister r v (next + BitVec.ofNat 16 width) s (t.advance width) := by
  obtain ⟨hreg, hzn, hkeeps, hmem, rfl⟩ := h
  exact ⟨hreg, hzn, hkeeps.trans (keeps_advance ..), hmem, t.advance_pc width⟩

/-- An instruction that loads a register from the byte it reads completes, loads the operand byte and moves past the operand. -/
theorem reading_loadsRegister {r : Reg} {f : Byte → State → State} (hf : ∀ m s, LoadsRegister r m s.pc s (f m s))
    (o : MemOperand) (s : State) :
    ∃ t, reading o f s = .next t ∧
      LoadsRegister r (operandByte o s) (s.pc + BitVec.ofNat 16 o.form.width) s t :=
  ⟨_, reading_next o f s, (hf _ s).advance _⟩

/-- Settles O14: every form is its mnemonic's meaning over the operand, which reads the byte and loads the register. -/
theorem loadsTakeOperandAndSetZN : Obligations.LoadsTakeOperandAndSetZN := by
  intro i o s ho
  refine ⟨fun hlda => ?_, fun hldx => ?_, fun hldy => ?_⟩
  · rw [exec_lda ho hlda]
    exact reading_loadsRegister loadsRegister_loadA o s
  · rw [exec_ldx ho hldx]
    exact reading_loadsRegister loadsRegister_loadX o s
  · rw [exec_ldy ho hldy]
    exact reading_loadsRegister loadsRegister_loadY o s

/-! ### Storing a byte -/

/-- A storing instruction completes with the value at the effective address, every other byte, every register and every flag
as before, and PC past the operand (R83 to R85). -/
theorem storing_writes_one_byte (o : MemOperand) (v : Byte) (s : State) :
    ∃ t, storing o v s = .next t ∧ t.readByte (effAddr o s) = v ∧ MemorySameOutside [effAddr o s] s t ∧
      Keeps [] [] s t ∧ t.pc = s.pc + BitVec.ofNat 16 o.form.width :=
  ⟨_, storing_next o v s, readByte_of_written rfl, memorySameOutside_of_written rfl,
    (keeps_writeByte s _ v).trans (keeps_advance ..), rfl⟩

/-- Settles O15: every form is its mnemonic's meaning over the operand, which stores the register at the effective address. -/
theorem storesWriteOneByteAndNoFlag : Obligations.StoresWriteOneByteAndNoFlag := by
  intro i o s ho
  refine ⟨fun hsta => ?_, fun hstx => ?_, fun hsty => ?_⟩
  · rw [exec_sta ho hsta]
    exact storing_writes_one_byte o s.a s
  · rw [exec_stx ho hstx]
    exact storing_writes_one_byte o s.x s
  · rw [exec_sty ho hsty]
    exact storing_writes_one_byte o s.y s

/-! ### Transfers -/

/-- Settles O16: every transfer but TXS loads its destination with the source register; TXS writes SP alone (R91). -/
theorem transfersCopyRegisters : Obligations.TransfersCopyRegisters := by
  intro s
  refine ⟨?tax, ?tay, ?txa, ?tya, ?tsx, ?txs⟩
  case tax => exact ⟨_, implied_next _ s, loadsRegister_loadX s.a s⟩
  case tay => exact ⟨_, implied_next _ s, loadsRegister_loadY s.a s⟩
  case txa => exact ⟨_, implied_next _ s, loadsRegister_loadA s.x s⟩
  case tya => exact ⟨_, implied_next _ s, loadsRegister_loadA s.y s⟩
  case tsx => exact ⟨_, implied_next _ s, loadsRegister_loadX s.sp s⟩
  case txs => exact ⟨_, implied_next _ s, s.setSP_sp s.x, keeps_setSP s s.x, s.setSP_readByte s.x, s.setSP_pc s.x⟩

end Sys2Proof.Machine
end

section
/-! PROOF. INC and DEC: a byte rewritten at an address with Z and N from the new value, carried past the operand, and the
steps by one modulo 256 (spec/42_incdec.md R96, R97). -/

namespace Sys2Proof.Machine

/-! ### A step by one, modulo 256 -/

theorem byte_add_one_toNat (b : Byte) : (b + 1).toNat = (b.toNat + 1) % 256 := BitVec.toNat_add b 1

theorem byte_sub_one_toNat (b : Byte) : ((b - 1).toNat : Int) = ((b.toNat : Int) - 1) % 256 := by
  have hsub : (b - 1).toNat = (255 + b.toNat) % 256 := BitVec.toNat_sub b 1
  omega

/-! ### Rewriting a byte -/

/-- From `s` to `t` the byte at `ea` becomes `v`, Z and N come from the new byte, PC becomes `next`, and nothing else changes
but the listed flags: what a read-modify-write does in its memory forms (R96, R97). -/
def RewritesByte (ea : Word) (v : Byte) (flags : List Flag) (next : Word) (s t : State) : Prop :=
  t.readByte ea = v ∧ ZeroNegativeOf (t.readByte ea) t ∧ MemorySameOutside [ea] s t ∧ Keeps [] flags s t ∧ t.pc = next

/-- A byte write followed by `setZN` of the byte written rewrites it. -/
theorem rewritesByte_setZN (ea : Word) (v : Byte) (s : State) :
    RewritesByte ea v [.Z, .N] s.pc s ((s.writeByte ea v).setZN v) := by
  have hread : ((s.writeByte ea v).setZN v).readByte ea = v := readByte_of_written (State.setZN_mem _ v)
  refine ⟨hread, ?_, memorySameOutside_of_written (State.setZN_mem _ v), ?_, rfl⟩
  · rw [hread]
    exact zeroNegativeOf_setZN _ v
  · exact ((keeps_writeByte s ea v).mono (by simp) (by simp)).trans (keeps_setZN _ v)

theorem rewritesByte_incrementAt (ea : Word) (s : State) :
    RewritesByte ea (s.readByte ea + 1) [.Z, .N] s.pc s (incrementAt ea s) :=
  rewritesByte_setZN ea _ s

theorem rewritesByte_decrementAt (ea : Word) (s : State) :
    RewritesByte ea (s.readByte ea - 1) [.Z, .N] s.pc s (decrementAt ea s) :=
  rewritesByte_setZN ea _ s

/-- The generic advance moves PC past the operand and leaves the rest of a rewrite (R63). -/
theorem RewritesByte.advance {ea : Word} {v : Byte} {flags : List Flag} {next : Word} {s t : State}
    (h : RewritesByte ea v flags next s t) (width : Nat) :
    RewritesByte ea v flags (next + BitVec.ofNat 16 width) s (t.advance width) := by
  obtain ⟨hread, hzn, hmem, hkeeps, rfl⟩ := h
  exact ⟨hread, hzn, hmem, hkeeps.trans (keeps_advance ..), t.advance_pc width⟩

/-- A read-modify-write whose effect rewrites a byte completes with that byte rewritten at the effective address and PC past
the operand. -/
theorem modifying_rewritesByte {f : Word → State → State} {v : Byte} {flags : List Flag} {o : MemOperand} {s : State}
    (hf : RewritesByte (effAddr o s) v flags s.pc s (f (effAddr o s) s)) :
    ∃ t, modifying o f s = .next t ∧
      RewritesByte (effAddr o s) v flags (s.pc + BitVec.ofNat 16 o.form.width) s t :=
  ⟨_, modifying_next o f s, hf.advance _⟩

/-- Settles O18: every form is its mnemonic's meaning over the operand, which rewrites the byte at the effective address with
its successor or predecessor. -/
theorem memoryIncrementsWrap : Obligations.MemoryIncrementsWrap := by
  intro i o s ho
  refine ⟨fun hinc => ?_, fun hdec => ?_⟩
  · obtain ⟨t, hnext, hread, hrest⟩ := modifying_rewritesByte (rewritesByte_incrementAt (effAddr o s) s)
    exact ⟨t, (exec_inc ho hinc).trans hnext, hread ▸ byte_add_one_toNat _, hrest⟩
  · obtain ⟨t, hnext, hread, hrest⟩ := modifying_rewritesByte (rewritesByte_decrementAt (effAddr o s) s)
    exact ⟨t, (exec_dec ho hdec).trans hnext, hread ▸ byte_sub_one_toNat _, hrest⟩

end Sys2Proof.Machine
end

section
/-! PROOF. AND, ORA and EOR: A loaded with its bitwise combination with the operand byte (spec/43_logical.md R98 to R100). -/

namespace Sys2Proof.Machine

/-- From `s` to `t` each bit of A becomes `bit` of itself and the same bit of `m`, Z and N come from the new A, PC becomes
`next`, and nothing else changes (R98 to R100). -/
def CombinesWithA (bit : Bool → Bool → Bool) (m : Byte) (next : Word) (s t : State) : Prop :=
  (∀ k, k < 8 → t.a.getLsbD k = bit (s.a.getLsbD k) (m.getLsbD k)) ∧ ZeroNegativeOf t.a t ∧ Keeps [.A] [.Z, .N] s t ∧
    MemorySame s t ∧ t.pc = next

/-- A load of A combines `m` with A when the loaded value is their bitwise combination. -/
theorem LoadsRegister.combinesWithA {bit : Bool → Bool → Bool} {v m : Byte} {next : Word} {s t : State}
    (h : LoadsRegister .A v next s t) (hv : ∀ k, v.getLsbD k = bit (s.a.getLsbD k) (m.getLsbD k)) :
    CombinesWithA bit m next s t := by
  obtain ⟨rfl, hzn, hkeeps, hmem, hpc⟩ := h
  exact ⟨fun k _ => hv k, hzn, hkeeps, hmem, hpc⟩

theorem combinesWithA_andA (m : Byte) (s : State) : CombinesWithA and m s.pc s (andA m s) :=
  (loadsRegister_loadA (s.a &&& m) s).combinesWithA fun _ => BitVec.getLsbD_and

theorem combinesWithA_orA (m : Byte) (s : State) : CombinesWithA or m s.pc s (orA m s) :=
  (loadsRegister_loadA (s.a ||| m) s).combinesWithA fun _ => BitVec.getLsbD_or

theorem combinesWithA_xorA (m : Byte) (s : State) : CombinesWithA xor m s.pc s (xorA m s) :=
  (loadsRegister_loadA (s.a ^^^ m) s).combinesWithA fun _ => BitVec.getLsbD_xor

/-- The generic advance moves PC past the operand and leaves the rest of a combination (R63). -/
theorem CombinesWithA.advance {bit : Bool → Bool → Bool} {m : Byte} {next : Word} {s t : State}
    (h : CombinesWithA bit m next s t) (width : Nat) :
    CombinesWithA bit m (next + BitVec.ofNat 16 width) s (t.advance width) := by
  obtain ⟨hbits, hzn, hkeeps, hmem, rfl⟩ := h
  exact ⟨hbits, hzn, hkeeps.trans (keeps_advance ..), hmem, t.advance_pc width⟩

/-- An instruction that combines the byte it reads with A completes, combines the operand byte and moves past the operand. -/
theorem reading_combinesWithA {bit : Bool → Bool → Bool} {f : Byte → State → State}
    (hf : ∀ m s, CombinesWithA bit m s.pc s (f m s)) (o : MemOperand) (s : State) :
    ∃ t, reading o f s = .next t ∧
      CombinesWithA bit (operandByte o s) (s.pc + BitVec.ofNat 16 o.form.width) s t :=
  ⟨_, reading_next o f s, (hf _ s).advance _⟩

/-- Settles O19: every form is its mnemonic's meaning over the operand, which combines the operand byte with A bit by bit. -/
theorem logicalOperationsOnA : Obligations.LogicalOperationsOnA := by
  intro i o s ho
  refine ⟨fun hand => ?_, fun hora => ?_, fun heor => ?_⟩
  · rw [exec_and ho hand]
    exact reading_combinesWithA combinesWithA_andA o s
  · rw [exec_ora ho hora]
    exact reading_combinesWithA combinesWithA_orA o s
  · rw [exec_eor ho heor]
    exact reading_combinesWithA combinesWithA_xorA o s

end Sys2Proof.Machine
end

section
/-! PROOF. CMP, CPX and CPY: the flags of the compare of a register with the operand byte; BIT: the operand's bits in the
flags (spec/45_arith_compare_bit.md R108 to R112). -/

namespace Sys2Proof.Machine

/-! ### Compare -/

/-- The byte difference is the exact difference of the numbers, masked to 8 bits (R108). -/
theorem byte_sub_eq_ofInt (a b : Byte) : a - b = BitVec.ofInt 8 ((a.toNat : Int) - b.toNat) := by
  bv_omega

/-- The shared operation compares: C from its own write, Z and N from the masked difference (R108). -/
theorem compares_compareBytes (reg m : Byte) (s : State) : Compares reg m s (compareBytes reg m s) := by
  have hzn : ZeroNegativeOf (BitVec.ofInt 8 ((reg.toNat : Int) - m.toNat)) (compareBytes reg m s) := by
    rw [← byte_sub_eq_ofInt]
    exact zeroNegativeOf_setZN _ (reg - m)
  exact ⟨compareBytes_flag_C reg m s, hzn, keeps_compareBytes reg m s, fun _ => rfl⟩

/-- The generic advance moves PC alone, so it leaves a compare (R63). -/
theorem Compares.advance {reg m : Byte} {s t : State} (h : Compares reg m s t) (width : Nat) :
    Compares reg m s (t.advance width) := by
  obtain ⟨hc, hzn, hkeeps, hmem⟩ := h
  exact ⟨hc, hzn, hkeeps.trans (keeps_advance ..), hmem⟩

/-- An instruction that compares `reg` with the byte it reads completes, compares the operand byte and moves past the operand. -/
theorem reading_compares (reg : Byte) (o : MemOperand) (s : State) :
    ∃ t, reading o (compareBytes reg) s = .next t ∧ Compares reg (operandByte o s) s t ∧
      t.pc = s.pc + BitVec.ofNat 16 o.form.width :=
  ⟨_, reading_next o _ s, (compares_compareBytes reg _ s).advance _, rfl⟩

/-- Settles O25: every form is its mnemonic's meaning over the operand, which compares its register with the operand byte. -/
theorem comparesSetCZN : Obligations.ComparesSetCZN := by
  intro i o s ho
  refine ⟨fun hcmp => ?_, fun hcpx => ?_, fun hcpy => ?_⟩
  · rw [exec_cmp ho hcmp]
    exact reading_compares s.a o s
  · rw [exec_cpx ho hcpx]
    exact reading_compares s.x o s
  · rw [exec_cpy ho hcpy]
    exact reading_compares s.y o s

/-! ### Bit test -/

@[simp] theorem bitTest_flag_Z (m : Byte) (s : State) : (bitTest m s).flag .Z = decide (s.a &&& m = 0) := by
  simp [bitTest, beq_eq_decide]

@[simp] theorem bitTest_flag_N (m : Byte) (s : State) : (bitTest m s).flag .N = m.getLsbD 7 := by
  simp [bitTest]

@[simp] theorem bitTest_flag_V (m : Byte) (s : State) : (bitTest m s).flag .V = m.getLsbD 6 := by
  simp [bitTest]

/-- Settles O26: both forms are BIT's meaning over the operand, whose effect on the operand byte the generic advance leaves
but for PC. -/
theorem bitTestsOperand : Obligations.BitTestsOperand := by
  intro i o s ho hbit
  rw [exec_bit ho hbit]
  have hkeeps := (keeps_bitTest (operandByte o s) s).trans (keeps_advance _ _ _ o.form.width)
  refine ⟨_, reading_next o bitTest s, ?_, ?_, ?_, hkeeps, fun _ => rfl, State.advance_pc _ _⟩
  all_goals rw [State.advance_flag]
  · exact bitTest_flag_Z _ s
  · exact bitTest_flag_N _ s
  · exact bitTest_flag_V _ s

end Sys2Proof.Machine
end

section
/-! PROOF. The conditional branches: the shared branch operation in numbers, and the branches on C (spec/46_branch.md R113 to
R115). -/

namespace Sys2Proof.Machine

/-! ### The branch operation in numbers -/

/-- Adding a word to an address is adding its signed value modulo 65536 (R9). -/
theorem word_add_toNat_eq_toInt (w d : Word) : ((w + d).toNat : Int) = ((w.toNat : Int) + d.toInt) % 65536 := by
  have hadd : (w + d).toNat = (w.toNat + d.toNat) % 65536 := BitVec.toNat_add w d
  rw [BitVec.toInt_eq_toNat_cond]
  split_ifs <;> omega

/-- The signed offset is counted from the address past the offset byte: the two wraps modulo 65536 are one (R113). -/
theorem branch_pc_toNat (cond : Bool) (off : Byte) (s : State) :
    ((branch cond off s).pc.toNat : Int) =
      ((s.pc.toNat : Int) + 1 + (if cond then (sext16 off).toInt else 0)) % 65536 := by
  have hpast : (s.pc + 1).toNat = (s.pc.toNat + 1) % 65536 := BitVec.toNat_add s.pc 1
  rw [branch, State.setPC_pc]
  cases cond with
  | false =>
    rw [if_neg Bool.false_ne_true, if_neg Bool.false_ne_true, hpast]
    omega
  | true =>
    rw [if_pos rfl, if_pos rfl, word_add_toNat_eq_toInt, hpast]
    omega

/-- An instruction that completes with the branch operation under `cond` branches if `cond` (R113). -/
theorem branchesIf_of_exec_eq_branch {i : Byte → Instr} {cond : State → Bool}
    (h : ∀ off s, exec (i off) s = .next (branch (cond s) off s)) : BranchesIf i cond := by
  intro off s
  have hpc := branch_pc_toNat (cond s) off s
  rw [sext16_toInt] at hpc
  exact ⟨_, h off s, hpc, keeps_setPC s _, s.setPC_readByte _⟩

/-! ### The branches on C -/

theorem exec_bcc (off : Byte) (s : State) : exec (.bcc off) s = .next (branch (!s.flag .C) off s) :=
  exec_eq_after (.bcc off) s

theorem exec_bcs (off : Byte) (s : State) : exec (.bcs off) s = .next (branch (s.flag .C) off s) :=
  exec_eq_after (.bcs off) s

/-- Settles O27: each of the two is the shared branch operation, BCC under C clear and BCS under C set. -/
theorem carryBranches : Obligations.CarryBranches := by
  refine ⟨branchesIf_of_exec_eq_branch fun off s => ?bcc, branchesIf_of_exec_eq_branch fun off s => ?bcs⟩
  case bcc => rw [exec_bcc, beq_false]
  case bcs => rw [exec_bcs, beq_true]

end Sys2Proof.Machine
end

section
/-! PROOF. Jumps and the return from a subroutine: the pointer read within its page and the pulled word, in numbers
(spec/47_jump_subroutine.md R122, R123, R125). -/

namespace Sys2Proof.Machine

/-! ### Jumps -/

/-- The pointer's high byte is read at the next address of the pointer's own page (R123). -/
theorem readWordInPage_toNat (s : State) (addr : Word) :
    (s.readWordInPage addr).toNat = (hostReadByte s addr.toNat).toNat +
      256 * (hostReadByte s (addr.toNat / 256 * 256 + (addr.toNat + 1) % 256)).toNat := by
  have hnext : (word (hi8 addr) (lo8 addr + 1)).toNat = addr.toNat / 256 * 256 + (addr.toNat + 1) % 256 := by
    rw [word_toNat, hi8_toNat, byte_add_one_toNat, lo8_toNat, Nat.mod_add_mod]
  rw [State.readWordInPage, word_toNat, ← hostReadByte_toNat, ← hostReadByte_toNat, hnext]
  omega

theorem exec_jmpJabs (w : Word) (s : State) : exec (.jmpJabs w) s = .next (s.setPC w) := exec_eq_after (.jmpJabs w) s

theorem exec_jmpInd (w : Word) (s : State) : exec (.jmpInd w) s = .next (s.setPC (s.readWordInPage w)) :=
  exec_eq_after (.jmpInd w) s

/-- Settles O29: both jumps write PC alone, to the operand word or to the pointer read within its page. -/
theorem jumpsSetPC : Obligations.JumpsSetPC := by
  intro w s
  refine ⟨⟨_, exec_jmpJabs w s, s.setPC_pc w, keeps_setPC s w, s.setPC_readByte w⟩,
    ⟨_, exec_jmpInd w s, ?pointer, keeps_setPC s _, s.setPC_readByte _⟩⟩
  case pointer =>
    rw [State.setPC_pc]
    exact readWordInPage_toNat s w

/-! ### Return from a subroutine -/

/-- The pulled word is little-endian over the next two slots, each formed modulo 256 (R43). -/
theorem pulled16_toNat (s : State) :
    s.pulled16.toNat = (hostReadByte s (0x0100 + (s.sp.toNat + 1) % 256)).toNat +
      256 * (hostReadByte s (0x0100 + (s.sp.toNat + 2) % 256)).toNat := by
  have hhigh : s.afterPull.pulled = hostReadByte s (0x0100 + (s.sp.toNat + 2) % 256) := by
    rw [pulled_eq_hostReadByte, State.afterPull_sp, byte_add_one_toNat, Nat.mod_add_mod]
    exact s.afterPull_readByte _
  rw [State.pulled16, word_toNat, hhigh, pulled_eq_hostReadByte]
  omega

/-- Two pulls move SP up by 2 modulo 256 (R43). -/
theorem afterPull16_sp_toNat (s : State) : s.afterPull16.sp.toNat = (s.sp.toNat + 2) % 256 := by
  rw [State.afterPull16, State.afterPull_sp, State.afterPull_sp, byte_add_one_toNat, byte_add_one_toNat, Nat.mod_add_mod]

theorem exec_rts (s : State) : exec .rts s = .next (returnFromCall s) := exec_eq_after .rts s

/-- The return goes to the pulled word plus 1, modulo 65536 (R125). -/
theorem returnFromCall_pc_toNat (s : State) : (returnFromCall s).pc.toNat = (s.pulled16.toNat + 1) % 65536 :=
  BitVec.toNat_add s.pulled16 1

/-- Settles O31: the return sets PC past the pulled word and moves SP by the two pulls. -/
theorem rtsPullsAndAddsOne : Obligations.RtsPullsAndAddsOne := by
  intro s
  have hpc := returnFromCall_pc_toNat s
  rw [pulled16_toNat] at hpc
  exact ⟨_, exec_rts s, hpc, afterPull16_sp_toNat s, keeps_returnFromCall s, fun _ => rfl⟩

end Sys2Proof.Machine
end

section
/-! PROOF. PHA, PHP and PLP: what a push changes and leaves, and the status byte with Break and Break2 set on the way to the
stack and cleared on the way back (spec/48_stack.md R126, R128, R129). -/

namespace Sys2Proof.Machine

/-! ### Pushing a byte -/

/-- From `s` to `t` the byte `v` is pushed: the slot of SP takes it, SP is decremented modulo 256, and no other byte, register
or flag changes, nor PC (R41). -/
def PushesByte (v : Byte) (s t : State) : Prop :=
  t.readByte (State.stackSlot s.sp) = v ∧ t.sp.toNat = (s.sp.toNat + 255) % 256 ∧
    MemorySameOutside [State.stackSlot s.sp] s t ∧ Keeps [.SP] [] s t ∧ t.pc = s.pc

theorem pushesByte_push (v : Byte) (s : State) : PushesByte v s (s.push v) := by
  obtain ⟨-, hsp, hkeeps, hpc, -⟩ := pushWritesThenPullReads s v
  exact ⟨readByte_of_written rfl, hsp, memorySameOutside_of_written rfl, hkeeps, hpc⟩

theorem exec_pha (s : State) : exec .pha s = .next (s.push s.a) := exec_eq_after .pha s

/-- Settles O33: PHA is the push of A. -/
theorem phaPushesA : Obligations.PhaPushesA := fun s => ⟨_, exec_pha s, pushesByte_push s.a s⟩

/-! ### Pushing and pulling Status -/

theorem exec_php (s : State) : exec .php s = .next (s.push (s.status ||| breakMask)) := exec_eq_after .php s

/-- Settles O35: PHP is the push of Status with the two break bits set, and a push leaves Status. -/
theorem phpPushesStatusWithBreakSet : Obligations.PhpPushesStatusWithBreakSet := by
  intro s
  obtain ⟨hread, hsp, hmem, hkeeps, hpc⟩ := pushesByte_push (s.status ||| breakMask) s
  refine ⟨_, exec_php s, fun f => ?flags, hsp, s.push_status _, hmem, hkeeps, hpc⟩
  case flags => rw [hread, getFlag_or_breakMask, State.flag]

theorem exec_plp (s : State) : exec .plp s = .next (pullStatus s) := exec_eq_after .plp s

/-- The pulled Status, by the number of its slot: 0xCF is the mask that clears Break and Break2 (R129). -/
theorem pullStatus_status (s : State) :
    (pullStatus s).status = hostReadByte s (0x0100 + (s.sp.toNat + 1) % 256) &&& 0xCF := by
  have hmask : ~~~breakMask = 0xCF := by decide
  rw [pullStatus, State.setStatus_status, hmask, pulled_eq_hostReadByte]

/-- Every flag after PLP is that of the pulled byte, but Break and Break2, which are clear (R129). -/
theorem pullStatus_flag (s : State) (f : Flag) :
    (pullStatus s).flag f =
      (getFlag f (hostReadByte s (0x0100 + (s.sp.toNat + 1) % 256)) && !decide (f = .B ∨ f = .B2)) := by
  rw [pullStatus, State.setStatus_flag_eq, getFlag_and_breakMask, pulled_eq_hostReadByte]

/-- Settles O36: PLP pulls a byte and writes SP and Status alone. -/
theorem plpPullsStatusWithBreakCleared : Obligations.PlpPullsStatusWithBreakCleared := by
  intro s
  have hsp : (pullStatus s).sp.toNat = (s.sp.toNat + 1) % 256 := byte_add_one_toNat s.sp
  exact ⟨_, exec_plp s, pullStatus_status s, pullStatus_flag s, hsp, keeps_pullStatus s, fun _ => rfl, rfl⟩

end Sys2Proof.Machine
end

section
/-! PROOF. The flag instructions and NOP: each flag instruction is one flag write, NOP the state it is given
(spec/49_flags_control.md R130 to R135). -/

namespace Sys2Proof.Machine

/-- An instruction that completes with one flag write sets or clears that one bit: the frame is that of the write (R10). -/
theorem setsOneFlag_of_exec_eq_setFlag {i : Instr} {f : Flag} {on : Bool}
    (h : ∀ s, exec i s = .next (s.setFlag f on)) : SetsOneFlag i f on := by
  intro s
  obtain ⟨-, hframe⟩ := statusPacksItsFlags s f on
  exact ⟨_, h s, hframe⟩

/-- Settles O38: each of the five is the write of its own flag, and the meaning of NOP is the state itself. -/
theorem flagInstructionsAndNop : Obligations.FlagInstructionsAndNop := by
  refine ⟨?sec, ?clc, ?cli, ?cld, ?clv, ?nop⟩
  case sec => exact setsOneFlag_of_exec_eq_setFlag (exec_eq_after .sec)
  case clc => exact setsOneFlag_of_exec_eq_setFlag (exec_eq_after .clc)
  case cli => exact setsOneFlag_of_exec_eq_setFlag (exec_eq_after .cli)
  case cld => exact setsOneFlag_of_exec_eq_setFlag (exec_eq_after .cld)
  case clv => exact setsOneFlag_of_exec_eq_setFlag (exec_eq_after .clv)
  case nop => exact exec_eq_after .nop

end Sys2Proof.Machine
end

section
/-! PROOF. The decoder and the encoder are inverse: what a format reads, what the opcode map holds at an instruction's opcode and
at any byte (spec/30_encoding.md sections 1 and 3). -/

namespace Sys2Proof

/-! ### What a format reads -/

/-- The instruction that a format makes of its operand bytes, low byte first (R50). -/
inductive Format.Reads : Format → Instr → List Byte → Prop where
  | i1 (i : Instr) : Reads (.i1 i) i []
  | i2 (make : Byte → Instr) (b : Byte) : Reads (.i2 make) (make b) [b]
  | i3 (make : Word → Instr) (w : Word) : Reads (.i3 make) (make w) [lo8 w, hi8 w]

/-- The decoder answers exactly what the format of the opcode byte reads from the bytes after it (R51, R59). -/
theorem decode_eq_ok_iff {p : Bool} {bytes rest : List Byte} {i : Instr} :
    decode p bytes = .ok (i, rest) ↔
      ∃ op fmt args, decodeOpcode p op = some fmt ∧ fmt.Reads i args ∧ bytes = op :: (args ++ rest) := by
  constructor
  · intro h
    unfold decode at h
    split at h
    · cases h
    · next op tail =>
      split at h
      · cases h
      · next hop => cases h; exact ⟨op, _, [], hop, .i1 i, rfl⟩
      · next make b _ hop => cases h; exact ⟨op, _, [b], hop, .i2 make b, rfl⟩
      · next make b1 b2 _ hop =>
        cases h
        exact ⟨op, _, _, hop, .i3 make (word b2 b1), by simp⟩
      · cases h
  · rintro ⟨op, fmt, args, hop, hreads, rfl⟩
    cases hreads <;> simp [decode, hop]

/-! ### The opcode map at an instruction's opcode, and the instructions at an opcode byte -/

/-- The map ordered by opcode has, at the opcode that the map ordered by mnemonic gives, a format that reads the instruction from
its operand bytes (R56, R139). -/
theorem decodeOpcode_opcode {p : Bool} {i : Instr} (h : i.wf p = true) :
    ∃ fmt, decodeOpcode p i.opcode = some fmt ∧ fmt.Reads i i.operand.bytes := by
  cases i with
  | sei | sed => obtain rfl : p = true := h; exact ⟨_, rfl, by constructor⟩
  | _ =>
    dsimp only [Instr.opcode, Instr.operand, Operand.bytes, MemOperand.bytes]
    exact ⟨_, rfl, by constructor⟩

/-- Whatever operand bytes a format at an opcode byte reads, the instruction exists and has that opcode and these bytes (R56,
R139): by the rows of the map (the seventeenth arm is no row) and the entries of a row, which give the byte's two nibbles. -/
theorem instr_of_decodeOpcode {p : Bool} {op : Byte} {fmt : Format} {i : Instr} {args : List Byte}
    (hop : decodeOpcode p op = some fmt) (hreads : fmt.Reads i args) :
    i.wf p = true ∧ i.opcode = op ∧ i.operand.bytes = args := by
  unfold decodeOpcode at hop
  cases p
  all_goals
    split at hop
    case h_17 => cases hop
  all_goals
    next hhigh =>
    simp only [decodeRow0, decodeRow1, decodeRow2, decodeRow3, decodeRow4, decodeRow5, decodeRow6, decodeRow7, decodeRow8,
      decodeRow9, decodeRowA, decodeRowB, decodeRowC, decodeRowD, decodeRowE, decodeRowF] at hop
    split at hop
    all_goals cases hop
    all_goals
      next hlow =>
      have hop := Nat.div_add_mod op.toNat 16
      rw [hhigh, hlow] at hop
      cases hreads
      exact ⟨rfl, BitVec.eq_of_toNat_eq hop, rfl⟩

/-- Settles O2: the opcode map has a format at the instruction's opcode that reads the instruction, and the decoder answers what
it reads. -/
theorem decodeEncodeRoundTrip : Obligations.DecodeEncodeRoundTrip := by
  intro p i rest hwf
  obtain ⟨fmt, hop, hreads⟩ := decodeOpcode_opcode hwf
  exact decode_eq_ok_iff.mpr ⟨i.opcode, fmt, i.operand.bytes, hop, hreads, rfl⟩

/-- Settles O3: the bytes are an opcode and what its format reads, which are the instruction's own. -/
theorem decodedBytesAreTheEncoding : Obligations.DecodedBytesAreTheEncoding := by
  intro p bytes rest i h
  obtain ⟨op, fmt, args, hop, hreads, rfl⟩ := decode_eq_ok_iff.mp h
  obtain ⟨hwf, rfl, rfl⟩ := instr_of_decodeOpcode hop hreads
  exact ⟨hwf, rfl⟩

/-- Settles O1: the fifteen words, decoded. -/
theorem specWordsDecode : Obligations.SpecWordsDecode := by
  unfold Obligations.SpecWordsDecode
  and_intros <;> rfl

end Sys2Proof

namespace Sys2Proof.Machine

/-! ### The opcode grid -/

/-- Settles O4: the list and both settings of the map, byte by byte. -/
theorem unmappedBytesAreTheListed : Obligations.UnmappedBytesAreTheListed := by
  unfold Obligations.UnmappedBytesAreTheListed
  decide

/-- The grid's entry at an instruction's opcode is its mnemonic and form. -/
theorem tableEntry (i : Instr) : Laws.TableEntry.Statement i := by
  unfold Laws.TableEntry.Statement
  cases i <;> (dsimp only [Instr.opcode]; exact ⟨rfl, rfl⟩)

/-- The check of well-formedness asks for P_SEI_SED of SEI and SED alone (R139). -/
theorem wf_eq_onlySeiSed (p : Bool) (i : Instr) : i.wf p = (p || !onlySeiSed i.mnemonic) := by
  cases p <;> cases i <;> rfl

/-- The grid of a core is the whole grid, less the entries of SEI and SED when P_SEI_SED is false (R139). -/
theorem table_eq_filter (p : Bool) (op : Byte) :
    table p op = (table true op).filter fun e => p || !onlySeiSed e.mnemonic := by
  unfold table
  cases (gridRow (op.toNat / 16)).getD (op.toNat % 16) none with
  | none => rfl
  | some e => cases p <;> cases h : onlySeiSed e.mnemonic <;> simp [Option.filter_some, h]

/-- A core that has an instruction has the instruction's own entry at its opcode. -/
theorem table_opcode {p : Bool} {i : Instr} (h : i.wf p = true) :
    table p i.opcode = some ⟨i.mnemonic, i.operand.form⟩ := by
  rw [table_eq_filter, (tableEntry i).1]
  exact Option.filter_some_pos ((wf_eq_onlySeiSed p i).symm.trans h)

/-- Where the map has no format the grid has no entry, byte by byte. -/
theorem table_eq_none_of_decodeOpcode : ∀ {p : Bool} {op : Byte}, decodeOpcode p op = none → table p op = none := by
  decide

/-- The decoder refuses an unmapped opcode byte, whatever follows. -/
theorem decode_unmapped {p : Bool} {op : Byte} (h : decodeOpcode p op = none) (rest : List Byte) :
    decode p (op :: rest) = .error (.unmapped op) := by
  simp [decode, h]

/-- Bytes that are enough for the longest instruction are read by every format. -/
theorem Format.reads_of_three (fmt : Format) (b1 b2 : Byte) (rest : List Byte) :
    ∃ i args r, fmt.Reads i args ∧ b1 :: b2 :: rest = args ++ r := by
  cases fmt with
  | i1 i => exact ⟨i, [], _, .i1 i, rfl⟩
  | i2 make => exact ⟨make b1, [b1], _, .i2 make b1, rfl⟩
  | i3 make => exact ⟨make (word b2 b1), [b1, b2], rest, by simpa using Format.Reads.i3 make (word b2 b1), rfl⟩

/-- An opcode byte with two bytes after it is unmapped for decoder and grid, or decodes to an instruction with that opcode and
that the core has. -/
theorem decode_three_cases (p : Bool) (op b1 b2 : Byte) (rest : List Byte) :
    (table p op = none ∧ decode p (op :: b1 :: b2 :: rest) = .error (.unmapped op)) ∨
    (∃ i r, decode p (op :: b1 :: b2 :: rest) = .ok (i, r) ∧ i.wf p = true ∧ i.opcode = op ∧
      b1 :: b2 :: rest = i.operand.bytes ++ r) := by
  cases hop : decodeOpcode p op with
  | none => exact .inl ⟨table_eq_none_of_decodeOpcode hop, decode_unmapped hop _⟩
  | some fmt =>
    obtain ⟨i, args, r, hreads, hbytes⟩ := Format.reads_of_three fmt b1 b2 rest
    obtain ⟨hwf, hopcode, hargs⟩ := instr_of_decodeOpcode hop hreads
    refine .inr ⟨i, r, ?_, hwf, hopcode, hargs ▸ hbytes⟩
    exact decode_eq_ok_iff.mpr ⟨op, fmt, args, hop, hreads, by rw [hbytes]⟩

/-- Settles O5: the grid has at an instruction's opcode the instruction's own entry, and is empty where the map is. -/
theorem decoderAgreesWithOpcodeGrid : Obligations.DecoderAgreesWithOpcodeGrid := by
  intro p op b1 b2 rest
  refine (decode_three_cases p op b1 b2 rest).imp_right ?_
  rintro ⟨i, r, hdecode, hwf, rfl, hbytes⟩
  refine ⟨i, r, hdecode, table_opcode hwf, ?_⟩
  have hlength : (encode i).length = i.width + 1 := (tableEntry i).2
  rw [← hlength, hbytes, encode, ← List.length_append, List.cons_append]

end Sys2Proof.Machine
end

section
/-! PROOF. Fetch and step: the bytes at PC as the encoding of an instruction, and the two things a step of a Running core can be
(spec/40_fetch_decode_addressing.md R63, R64; spec/60_exceptions.md R140 to R143). -/

namespace Sys2Proof.Machine

/-! ### Bytes in memory -/

/-- The bytes lie in memory from an address on, wrapping past 0xFFFF. -/
def BytesAt (bytes : List Byte) (addr : Word) (s : State) : Prop :=
  ∀ k, k < bytes.length → bytes[k]? = some (s.readByte (addr + BitVec.ofNat 16 k))

@[simp] theorem bytesAt_nil (addr : Word) (s : State) : BytesAt [] addr s := fun _ hk => absurd hk (Nat.not_lt_zero _)

theorem wordOfNat_succ (n : Nat) : BitVec.ofNat 16 (n + 1) = BitVec.ofNat 16 n + 1 := BitVec.ofNat_add n 1

/-- The address of the next byte, counted from the next address. -/
theorem addr_succ (addr : Word) (k : Nat) : addr + BitVec.ofNat 16 (k + 1) = addr + 1 + BitVec.ofNat 16 k := by
  rw [wordOfNat_succ, BitVec.add_comm _ 1, BitVec.add_assoc]

@[simp] theorem bytesAt_cons (b : Byte) (bytes : List Byte) (addr : Word) (s : State) :
    BytesAt (b :: bytes) addr s ↔ b = s.readByte addr ∧ BytesAt bytes (addr + 1) s := by
  constructor
  · intro h
    refine ⟨by simpa using h 0 (by simp), fun k hk => ?_⟩
    have := h (k + 1) (by simpa using hk)
    rwa [addr_succ] at this
  · rintro ⟨h0, hs⟩ k hk
    cases k with
    | zero => simpa using h0
    | succ k => rw [addr_succ]; exact hs k (by simpa using hk)

/-- Up to three bytes lie at PC when the fetched bytes begin with them. -/
theorem bytesAt_pc_iff {bytes : List Byte} (h : bytes.length ≤ 3) (s : State) :
    BytesAt bytes s.pc s ↔ ∃ rest, s.fetchBytes = bytes ++ rest := by
  have htwo : s.pc + 1#16 + 1#16 = s.pc + 2#16 := BitVec.add_assoc ..
  unfold State.fetchBytes
  match bytes, h with
  | [], _ => simp
  | [a], _ => simp [eq_comm]
  | [a, b], _ => simp [eq_comm]
  | [a, b, c], _ => simp [htwo, eq_comm]

/-! ### The fetch -/

theorem encode_length_le (i : Instr) : (encode i).length ≤ 3 := by
  rw [(tableEntry i).2, Instr.width]
  cases i.operand.form <;> decide

/-- The fetch answers exactly the instruction that the core has and whose encoding lies at PC. -/
theorem fetchInstr_eq_ok_iff {s : State} {i : Instr} :
    s.fetchInstr = .ok i ↔ i.wf s.pSeiSed = true ∧ BytesAt (encode i) s.pc s := by
  rw [bytesAt_pc_iff (encode_length_le i)]
  constructor
  · intro h
    unfold State.fetchInstr at h
    split at h
    · next hdecode =>
      cases h
      obtain ⟨hwf, hbytes⟩ := decodedBytesAreTheEncoding _ _ _ _ hdecode
      exact ⟨hwf, _, hbytes⟩
    · cases h
  · rintro ⟨hwf, rest, hbytes⟩
    rw [State.fetchInstr, hbytes, decodeEncodeRoundTrip _ _ _ hwf]

/-- The fetch of an unmapped byte answers UnimplementedOpcode, every other answers an instruction (R63, R143). -/
theorem fetchInstr_cases (s : State) :
    (table s.pSeiSed (s.readByte s.pc) = none ∧
      s.fetchInstr = .error (.unimplementedOpcode (s.readByte s.pc) s.pc)) ∨
    (∃ i, s.fetchInstr = .ok i) := by
  unfold State.fetchInstr State.fetchBytes
  obtain ⟨htable, hdecode⟩ | ⟨i, r, hdecode, -⟩ := decode_three_cases s.pSeiSed (s.readByte s.pc) _ _ []
  · exact .inl ⟨htable, by rw [hdecode]⟩
  · exact .inr ⟨i, by rw [hdecode]⟩

/-- The byte at PC is the fetched instruction's opcode. -/
theorem opcode_of_fetchInstr {s : State} {i : Instr} (h : s.fetchInstr = .ok i) : i.opcode = s.readByte s.pc := by
  obtain ⟨-, hbytes⟩ := fetchInstr_eq_ok_iff.mp h
  exact ((bytesAt_cons _ _ _ _).mp hbytes).1

/-- The grid's entry at the opcode byte of a fetched instruction is the instruction's own. -/
theorem table_of_fetchInstr {s : State} {i : Instr} (h : s.fetchInstr = .ok i) :
    table s.pSeiSed (s.readByte s.pc) = some ⟨i.mnemonic, i.operand.form⟩ := by
  obtain ⟨hwf, -⟩ := fetchInstr_eq_ok_iff.mp h
  rw [← opcode_of_fetchInstr h]
  exact table_opcode hwf

/-! ### The step -/

/-- A Running core runs the fetched instruction. -/
theorem step_of_fetchInstr_ok {s : State} {i : Instr} (hrun : s.run = .running) (h : s.fetchInstr = .ok i) :
    step s = exec i s.pastOpcode := by
  simp only [step, hrun, h]

/-- A Running core raises the fetch's fault. -/
theorem step_of_fetchInstr_error {s : State} {record : FaultRecord} (hrun : s.run = .running)
    (h : s.fetchInstr = .error record) : step s = .next (s.pastOpcode.raise record) := by
  simp only [step, hrun, h]

/-- Settles O41: the fetch answers the decoded instruction. -/
theorem stepRunsDecodedInstruction : Obligations.StepRunsDecodedInstruction := by
  intro s i rest hrun hdecode
  have hfetch : s.fetchInstr = .ok i := by rw [State.fetchInstr, State.fetchBytes, hdecode]
  exact step_of_fetchInstr_ok hrun hfetch

/-- Settles O42: the fetch answers the instruction whose encoding lies at PC. -/
theorem stepRunsEncodedInstruction : Obligations.StepRunsEncodedInstruction :=
  fun _ _ hrun hwf hbytes => step_of_fetchInstr_ok hrun (fetchInstr_eq_ok_iff.mpr ⟨hwf, hbytes⟩)

/-- Settles O43: the grid has the entry of every fetched instruction, so the fetch of a byte without one fails. -/
theorem unmappedOpcodeFaults : Obligations.UnmappedOpcodeFaults := by
  intro s hrun htable
  obtain ⟨-, hfetch⟩ | ⟨i, hfetch⟩ := fetchInstr_cases s
  · exact ⟨_, step_of_fetchInstr_error hrun hfetch, rfl, rfl⟩
  · rw [table_of_fetchInstr hfetch] at htable
    cases htable

/-- Settles O44: a Running core's step runs the fetched instruction, whose meaning answers a next state, or raises a fault. -/
theorem onlyRunningCoreSteps : Obligations.OnlyRunningCoreSteps := by
  intro s
  refine ⟨fun hrun => by rw [step, hrun], fun record hrun => by rw [step, hrun], fun hrun => ?_⟩
  obtain ⟨-, hfetch⟩ | ⟨i, hfetch⟩ := fetchInstr_cases s
  · exact ⟨_, step_of_fetchInstr_error hrun hfetch⟩
  · exact ⟨_, (step_of_fetchInstr_ok hrun hfetch).trans (exec_eq_after i _)⟩

end Sys2Proof.Machine
end

section
/-! PROOF. The invariant: every step keeps memory canonical and Break and Break2 clear, and so does every host operation
(spec/10_state.md R24, R29, R33; spec/70_reset_and_hazards.md R156 to R166). -/

namespace Sys2Proof.Machine

/-- A step that answers a next state runs the meaning of the fetched instruction, or leaves the core Faulted. -/
theorem step_next_cases {s t : State} (h : step s = .next t) :
    (∃ i, s.fetchInstr = .ok i ∧ t = after i.mnemonic i.operand s.pastOpcode) ∨
      (∃ record, s.fetchInstr = .error record ∧ t = s.pastOpcode.raise record) := by
  obtain ⟨-, ⟨i, hfetch, hexec⟩ | herror⟩ := step_cases h
  · rw [exec_eq_after, Host.Outcome.next.injEq] at hexec
    exact .inl ⟨i, hfetch, hexec.symm⟩
  · exact .inr herror

/-! ### Canonical memory -/

/-- An effect at the effective address that leaves the memory of one byte write there keeps memory canonical. -/
theorem wf_afterAt {f : Word → State → State} (h : ∀ ea s, ∃ v, (f ea s).mem = (s.writeByte ea v).mem) (x : Operand)
    {s : State} (hs : Memory.wf s.mem) : Memory.wf (afterAt f x s).mem := by
  cases x with
  | mem o =>
    obtain ⟨v, hv⟩ := h (effAddr o s) s
    rw [afterAt, State.advance_mem, hv]
    exact State.wf_writeByte hs _ v
  | _ => exact hs

theorem incrementAt_mem (ea : Word) (s : State) :
    (incrementAt ea s).mem = (s.writeByte ea (s.readByte ea + 1)).mem := rfl

theorem decrementAt_mem (ea : Word) (s : State) :
    (decrementAt ea s).mem = (s.writeByte ea (s.readByte ea - 1)).mem := rfl

theorem shiftAt_mem (f : Byte → Bool → Byte × Bool) (ea : Word) (s : State) :
    (shiftAt f ea s).mem = (s.writeByte ea (f (s.readByte ea) (s.flag .C)).1).mem := rfl

theorem wf_afterShift (f : Byte → Bool → Byte × Bool) (x : Operand) {s : State} (hs : Memory.wf s.mem) :
    Memory.wf (afterShift f x s).mem := by
  by_cases hx : x = .acc
  · subst hx; exact hs
  · rw [afterShift_of_ne_acc f hx]
    exact wf_afterAt (fun ea s => ⟨_, shiftAt_mem f ea s⟩) x hs

theorem wf_afterCall (x : Operand) {s : State} (hs : Memory.wf s.mem) : Memory.wf (afterCall x s).mem := by
  cases x with
  | jabs w => exact State.wf_push16 hs _
  | _ => exact hs

/-- Every mnemonic's meaning keeps memory canonical: the writers by byte writes and pushes, the others leave memory. -/
theorem wf_after (m : Mnemonic) (x : Operand) {s : State} (hs : Memory.wf s.mem) : Memory.wf (after m x s).mem := by
  cases m with
  | sta | stx | sty => exact wf_afterAt (fun _ _ => ⟨_, rfl⟩) x hs
  | inc => exact wf_afterAt (fun ea s => ⟨_, incrementAt_mem ea s⟩) x hs
  | dec => exact wf_afterAt (fun ea s => ⟨_, decrementAt_mem ea s⟩) x hs
  | asl | lsr | rol | ror => exact wf_afterShift _ x hs
  | pha => exact State.wf_push hs s.a
  | php => exact State.wf_push hs (s.status ||| breakMask)
  | jsr => exact wf_afterCall x hs
  | _ => rw [after_mem (by decide)]; exact hs

/-- Settles O51: the meaning of the fetched instruction keeps memory canonical, and a fault leaves it. -/
theorem stepKeepsMemoryCanonical : Obligations.StepKeepsMemoryCanonical := by
  intro s t hs h
  obtain ⟨i, -, rfl⟩ | ⟨record, -, rfl⟩ := step_next_cases h
  · exact wf_after i.mnemonic i.operand (s := s.pastOpcode) hs
  · exact hs

/-! ### Break and Break2 -/

/-- A break flag that is clear stays clear: PLP alone writes it, and clears it (R21, R129). -/
theorem after_break_flag {f : Flag} (hf : f = .B ∨ f = .B2) (m : Mnemonic) (x : Operand) {s : State}
    (hs : s.flag f = false) : (after m x s).flag f = false := by
  by_cases hm : m = .plp
  · subst hm
    exact (pullStatus_flag s f).trans (by simp [hf])
  · have hwriters : flagWriters f = [.plp] := by obtain rfl | rfl := hf <;> rfl
    obtain ⟨-, hflag, -⟩ := after_writesAsListed m x s
    exact (hflag f (by simpa [hwriters] using hm)).trans hs

/-- Settles O52: the meaning of the fetched instruction keeps both flags clear; a step without one faults. -/
theorem stepKeepsBreakFlagsClear : Obligations.StepKeepsBreakFlagsClear := by
  intro s t hB hB2 h hfaulted
  obtain ⟨i, -, rfl⟩ | ⟨record, -, rfl⟩ := step_next_cases h
  · exact ⟨after_break_flag (.inl rfl) i.mnemonic i.operand (s := s.pastOpcode) hB,
      after_break_flag (.inr rfl) i.mnemonic i.operand (s := s.pastOpcode) hB2⟩
  · exact absurd ⟨record, rfl⟩ hfaulted

/-! ### The invariant -/

theorem resetOp_flag (s : State) (f : Flag) : s.resetOp.flag f = false := by
  rw [State.flag, State.resetOp_status]
  exact BitVec.getLsbD_zero

/-- `reset()` makes the invariant hold of every core whose memory is canonical: it writes no byte and clears Status. -/
theorem inv_resetOp {s : State} (h : Memory.wf s.mem) : s.resetOp.Inv :=
  ⟨h, .inr ⟨resetOp_flag s .B, resetOp_flag s .B2⟩⟩

/-- A change that keeps flags and run state, and memory canonical, keeps the invariant. -/
theorem State.Inv.of_keeps {s t : State} (hs : s.Inv) (hkeeps : Keeps [] [] s t) (hmem : Memory.wf t.mem) : t.Inv := by
  obtain ⟨-, hflag, hrun, -⟩ := hkeeps
  obtain ⟨-, hbreak⟩ := hs
  refine ⟨hmem, ?_⟩
  rwa [State.endedAbnormally, hrun, hflag .B (by simp), hflag .B2 (by simp)]

/-- Every step keeps the invariant. -/
theorem State.Inv.step {s t : State} (hs : s.Inv) (h : step s = .next t) : t.Inv := by
  obtain ⟨hmem, hbreak⟩ := hs
  refine ⟨stepKeepsMemoryCanonical s t hmem h, Classical.or_iff_not_imp_left.mpr fun hfaulted => ?_⟩
  obtain ⟨record, hrecord⟩ | ⟨hB, hB2⟩ := hbreak
  · obtain ⟨hrun, -⟩ := step_cases h
    cases hrun.symm.trans hrecord
  · exact stepKeepsBreakFlagsClear s t hB hB2 h hfaulted

theorem keeps_writeWord (s : State) (addr w : Word) : Keeps [] [] s (s.writeWord addr w) :=
  (keeps_writeByte s addr _).trans (keeps_writeByte _ _ _)

theorem keeps_writeBytes (s : State) (addr : Word) (bytes : List Byte) : Keeps [] [] s (s.writeBytes addr bytes) := by
  induction bytes generalizing s addr with
  | nil => exact .refl ..
  | cons b rest ih => exact (keeps_writeByte s addr b).trans (ih _ _)

theorem keeps_loadAt (base : Word) (bytes : List Byte) (s : State) : Keeps [] [] s (loadAt base bytes s) :=
  (keeps_writeBytes s base bytes).trans (keeps_writeWord _ _ _)

/-- Settles O53: the reset state is Running with empty memory and Status zero. -/
theorem invariantHoldsAtReset : Obligations.InvariantHoldsAtReset := by
  refine ⟨⟨State.wf_reset, .inr ⟨rfl, rfl⟩⟩, ?_⟩
  rintro ⟨record, hrecord⟩
  cases hrecord

/-- Settles O54: by induction over the way a state is reached; memory is canonical from construction on. -/
theorem reachableStatesKeepInvariant : Obligations.ReachableStatesKeepInvariant := by
  intro s hs
  induction hs with
  | firstReset p => exact inv_resetOp (s := construct p) Memory.wf_nil
  | stepped s t _ h ih => exact ih.step h
  | reset s _ ih => exact inv_resetOp ih.1
  | hostWrote s addr value _ ih => exact ih.of_keeps (keeps_writeByte s _ _) (State.wf_writeByte ih.1 _ _)
  | loaded s base bytes _ ih =>
    exact ih.of_keeps (keeps_loadAt base bytes s) (State.wf_writeWord (State.wf_writeBytes ih.1 _ _) _ _)

end Sys2Proof.Machine
end

section
/-! PROOF. The word accessors and the two-byte stack operations, JSR with RTS, and the stack round trips (spec/20_memory.md R36
to R43; spec/47_jump_subroutine.md R124, R125; spec/48_stack.md R126 to R129). -/

namespace Sys2Proof.Machine

/-! ### Word accessors -/

/-- A word is read little-endian (R36, R38). -/
theorem readWord_toNat (s : State) (addr : Word) :
    (s.readWord addr).toNat = (s.readByte addr).toNat + 256 * (s.readByte (addr + 1)).toNat := by
  rw [State.readWord, word_toNat]
  omega

theorem word_ne_add_one (addr : Word) : addr ≠ addr + 1 := by
  bv_omega

/-- After a word write its high byte is at the next address, its low byte at the address, and every other byte is as before
(R37). -/
theorem writeWord_readByte (s : State) (addr w b : Word) :
    (s.writeWord addr w).readByte b = if b = addr + 1 then hi8 w else if b = addr then lo8 w else s.readByte b := by
  rw [State.writeWord, State.writeByte_readByte, State.writeByte_readByte]

theorem writeWord_readByte_same (s : State) (addr w : Word) : (s.writeWord addr w).readByte addr = lo8 w := by
  rw [writeWord_readByte, if_neg (word_ne_add_one addr), if_pos rfl]

theorem writeWord_readByte_next (s : State) (addr w : Word) : (s.writeWord addr w).readByte (addr + 1) = hi8 w := by
  rw [writeWord_readByte, if_pos rfl]

theorem writeWord_readWord (s : State) (addr w : Word) : (s.writeWord addr w).readWord addr = w := by
  rw [State.readWord, writeWord_readByte_same, writeWord_readByte_next, word_hi8_lo8]

theorem lo8_ofNat (n : Nat) : lo8 (BitVec.ofNat 16 n) = BitVec.ofNat 8 (n % 256) := by
  apply BitVec.eq_of_toNat_eq
  rw [lo8_toNat, BitVec.toNat_ofNat, BitVec.toNat_ofNat]
  omega

theorem hi8_ofNat (n : Nat) : hi8 (BitVec.ofNat 16 n) = BitVec.ofNat 8 (n / 256 % 256) := by
  apply BitVec.eq_of_toNat_eq
  rw [hi8_toNat, BitVec.toNat_ofNat, BitVec.toNat_ofNat]
  omega

/-- The host's next address is the next word address. -/
theorem hostReadByte_succ (s : State) (addr : Nat) : hostReadByte s (addr + 1) = s.readByte (BitVec.ofNat 16 addr + 1) := by
  rw [hostReadByte, wordOfNat_succ]

theorem hostReadByte_mod (s : State) (addr : Nat) : hostReadByte s (addr % 65536) = hostReadByte s addr := by
  rw [hostReadByte_eq_get, hostReadByte_eq_get, Nat.mod_mod]

/-- Settles O7: reads and writes of a word are those of its two bytes at the masked address and the next. -/
theorem wordAccessorsAreLittleEndian : Obligations.WordAccessorsAreLittleEndian := by
  intro s addr value
  refine ⟨?read, ?low, ?high, ?others, writeWord_readWord s _ _⟩
  case read =>
    rw [hostReadByte_mod, hostReadByte_succ]
    exact readWord_toNat s _
  case low => exact (writeWord_readByte_same s _ _).trans (lo8_ofNat value)
  case high =>
    rw [hostReadByte_succ]
    exact (writeWord_readByte_next s _ _).trans (hi8_ofNat value)
  case others =>
    intro b hlow hhigh
    have hne {n : Nat} (h : b % 65536 ≠ n % 65536) : BitVec.ofNat 16 b ≠ BitVec.ofNat 16 n :=
      fun heq => h (by simpa using congrArg BitVec.toNat heq)
    rw [hostReadByte, hostWriteWord, writeWord_readByte, ← wordOfNat_succ, if_neg (hne hhigh), if_neg (hne hlow),
      hostReadByte]

/-! ### The two-byte stack operations -/

theorem stackSlot_injective : Function.Injective State.stackSlot := by
  intro a b h
  have := congrArg BitVec.toNat h
  rw [stackSlot_toNat, stackSlot_toNat] at this
  exact BitVec.eq_of_toNat_eq (by omega)

theorem byte_sub_one_ne (b : Byte) : b ≠ b - 1 := by
  bv_omega

theorem byte_sub_one_sub_one (b : Byte) : b - 1 - 1 = b - 2 := by
  bv_omega

/-- From `s` to `t` the word `w` is pushed: high byte at the slot of SP, low byte at the slot below, no other byte, register or
flag changed (R43). -/
def PushesWord (w : Word) (s t : State) : Prop :=
  t.readByte (State.stackSlot s.sp) = hi8 w ∧ t.readByte (State.stackSlot (s.sp - 1)) = lo8 w ∧ t.sp = s.sp - 2 ∧
    MemorySameOutside [State.stackSlot s.sp, State.stackSlot (s.sp - 1)] s t ∧ Keeps [.SP] [] s t

theorem pushesWord_push16 (w : Word) (s : State) : PushesWord w s (s.push16 w) := by
  have hread (b : Word) : (s.push16 w).readByte b =
      if b = State.stackSlot (s.sp - 1) then lo8 w else if b = State.stackSlot s.sp then hi8 w else s.readByte b := by
    rw [State.push16, State.push_readByte, State.push_readByte, State.push_sp]
  refine ⟨?_, ?_, byte_sub_one_sub_one s.sp, ?_, (keeps_push s _).trans (keeps_push _ _)⟩
  · rw [hread, if_neg (stackSlot_injective.ne (byte_sub_one_ne s.sp)), if_pos rfl]
  · rw [hread, if_pos rfl]
  · intro b hb
    obtain ⟨hhigh, hlow⟩ : b ≠ State.stackSlot s.sp ∧ b ≠ State.stackSlot (s.sp - 1) := by simpa using hb
    rw [hread, if_neg hlow, if_neg hhigh]

/-- A core with the SP and the two stack bytes that a push of `w` left pulls `w`, and two pulls restore SP. -/
theorem PushesWord.pulled16 {w : Word} {s t u : State} (h : PushesWord w s t) (hsp : u.sp = t.sp)
    (hhigh : u.readByte (State.stackSlot s.sp) = t.readByte (State.stackSlot s.sp))
    (hlow : u.readByte (State.stackSlot (s.sp - 1)) = t.readByte (State.stackSlot (s.sp - 1))) :
    u.pulled16 = w ∧ u.afterPull16.sp = s.sp := by
  obtain ⟨hthigh, htlow, htsp, -⟩ := h
  have hone : u.sp + 1 = s.sp - 1 := by rw [hsp, htsp]; bv_omega
  have htwo : u.sp + 1 + 1 = s.sp := by rw [hone, BitVec.sub_add_cancel]
  refine ⟨?_, htwo⟩
  rw [State.pulled16, State.pulled, State.pulled, State.afterPull_readByte, State.afterPull_sp, htwo, hone, hhigh, hlow,
    hthigh, htlow, word_hi8_lo8]

/-- Settles O9: the push leaves what the pull asks for. -/
theorem pull16InvertsPush16 : Obligations.Pull16InvertsPush16 := by
  intro s w
  obtain ⟨hhigh, hlow, hsp, -⟩ := pushesWord_push16 w s
  refine ⟨?high, ?low, hsp, (pushesWord_push16 w s).pulled16 rfl rfl rfl⟩
  case high => rw [← stackSlot_toNat, hostReadByte_toNat, hhigh]
  case low =>
    have hslot : 0x0100 + (s.sp.toNat + 255) % 256 = (State.stackSlot (s.sp - 1)).toNat := by
      rw [stackSlot_toNat]; bv_omega
    rw [hslot, hostReadByte_toNat, hlow]

/-! ### Subroutines -/

theorem exec_jsr (w : Word) (s : State) : exec (.jsr w) s = .next (callTo w s) := exec_eq_after (.jsr w) s

/-- A call pushes the address of the JSR's last byte (R124): the jump after the push writes PC alone. -/
theorem pushesWord_callTo (w : Word) (s : State) : PushesWord (s.pc + 1) s (callTo w s) := by
  obtain ⟨hhigh, hlow, hsp, hmem, hkeeps⟩ := pushesWord_push16 (s.pc + 1) s
  exact ⟨hhigh, hlow, hsp, hmem, hkeeps.trans ((keeps_setPC _ w).mono (by simp) (by simp))⟩

/-- Settles O30: JSR is the call of its operand word. -/
theorem jsrPushesReturnAddress : Obligations.JsrPushesReturnAddress :=
  fun w s => ⟨_, exec_jsr w s, rfl, pushesWord_callTo w s⟩

/-- Settles O32: the RTS pulls the address that the JSR pushed and continues one past it. -/
theorem rtsReturnsAfterJsr : Obligations.RtsReturnsAfterJsr := by
  intro w s t u hjsr hsp hhigh hlow
  rw [exec_jsr, Host.Outcome.next.injEq] at hjsr
  subst hjsr
  obtain ⟨hpulled, hrestored⟩ := (pushesWord_callTo w s).pulled16 hsp hhigh hlow
  refine ⟨_, exec_rts u, ?_, hrestored⟩
  rw [returnFromCall, State.setPC_pc, hpulled, BitVec.add_assoc]
  rfl

/-! ### Round trips of one byte -/

/-- A pull after a push returns the pushed byte (R41, R42). -/
@[simp] theorem push_pulled (s : State) (v : Byte) : (s.push v).pulled = v := by
  rw [State.pulled, State.push_readByte, State.push_sp, BitVec.sub_add_cancel, if_pos rfl]

/-- A pull after a push restores SP (R41, R42). -/
theorem push_afterPull_sp (s : State) (v : Byte) : (s.push v).afterPull.sp = s.sp := by
  rw [State.afterPull_sp, State.push_sp, BitVec.sub_add_cancel]

theorem exec_pla (s : State) : exec .pla s = .next (pullA s) := exec_eq_after .pla s

@[simp] theorem pullA_a (s : State) : (pullA s).a = s.pulled := rfl

/-- PLP undoes PHP's setting of Break and Break2, so a status byte with both clear comes back (R128, R129). -/
theorem breakMask_round_trip {p : Byte} (hB : getFlag .B p = false) (hB2 : getFlag .B2 p = false) :
    (p ||| breakMask) &&& ~~~breakMask = p := by
  apply status_ext
  intro f
  rw [getFlag_and_breakMask, getFlag_or_breakMask]
  by_cases hf : f = .B ∨ f = .B2
  · obtain rfl | rfl := hf
    · simp [hB]
    · simp [hB2]
  · simp [hf]

/-- Settles O37: a pull after a push returns the pushed byte and restores SP; the two masks cancel on Status. -/
theorem stackRoundTripsRestore : Obligations.StackRoundTripsRestore := by
  intro s
  refine ⟨⟨_, _, exec_pha s, exec_pla _, ?a, push_afterPull_sp s _⟩, fun hB hB2 =>
    ⟨_, _, exec_php s, exec_plp _, ?status, push_afterPull_sp s _⟩⟩
  case a => rw [pullA_a, push_pulled]
  case status =>
    rw [pullStatus, State.setStatus_status, push_pulled]
    exact breakMask_round_trip hB hB2

/-- Settles O34: PLA pulls a byte and loads A with it. -/
theorem plaPullsA : Obligations.PlaPullsA := by
  intro s
  have hsp : (pullA s).sp.toNat = (s.sp.toNat + 1) % 256 := byte_add_one_toNat s.sp
  exact ⟨_, exec_pla s, pulled_eq_hostReadByte s, hsp, zeroNegativeOf_setZN _ s.pulled, keeps_pullA s, fun _ => rfl, rfl⟩

end Sys2Proof.Machine
end

section
/-! PROOF. The operands each mnemonic has, and the shifts and rotates over them (spec/30_encoding.md section 3;
spec/44_shift_rotate.md R101 to R105). -/

namespace Sys2Proof.Machine

/-! ### The operands of a mnemonic -/

/-- The operand is of a kind the mnemonic has (R52, R56): the shifts and rotates have the accumulator or a memory operand, the
branches an offset, JMP and JSR a word. -/
def HasOperand (m : Mnemonic) (x : Operand) : Prop :=
  match m with
  | .lda | .ldx | .ldy | .sta | .stx | .sty | .inc | .dec | .and | .ora | .eor | .adc | .sbc | .cmp | .cpx | .cpy | .bit =>
    ∃ o, x = .mem o
  | .asl | .lsr | .rol | .ror => x = .acc ∨ ∃ o, x = .mem o
  | .bcc | .bcs | .beq | .bne | .bmi | .bpl | .bvc | .bvs => ∃ b, x = .rel b
  | .jmp => (∃ w, x = .jabs w) ∨ ∃ w, x = .ind w
  | .jsr => ∃ w, x = .jabs w
  | _ => x = .imp

theorem hasOperand (i : Instr) : HasOperand i.mnemonic i.operand := by
  cases i <;> simp [HasOperand, Instr.mnemonic, Instr.operand]

/-! ### Shifts and rotates -/

theorem rewritesByte_shiftAt (f : Byte → Bool → Byte × Bool) (ea : Word) (s : State) :
    RewritesByte ea (f (s.readByte ea) (s.flag .C)).1 [.C, .Z, .N] s.pc s (shiftAt f ea s) := by
  have hread := readByte_of_written (shiftAt_mem f ea s)
  refine ⟨hread, ?_, memorySameOutside_of_written (shiftAt_mem f ea s), keeps_shiftAt f ea s, rfl⟩
  rw [hread]
  exact zeroNegativeOf_setZN _ _

/-- A mnemonic whose meaning is the shift or rotate with `f` shifts by what `f` computes (R101). -/
theorem shiftsBy_of_after {m : Mnemonic} {f : Byte → Bool → Byte × Bool} {result : Nat → Nat → Nat} {out : Nat}
    (hafter : after m = afterShift f) (hform : ∀ x, HasOperand m x → x = .acc ∨ ∃ o, x = .mem o)
    (hresult : ∀ v c, (f v c).1.toNat = result v.toNat c.toNat) (hout : ∀ v c, (f v c).2 = v.getLsbD out) :
    ShiftsBy m result out := by
  rintro i s rfl
  have hexec := exec_eq_after i s
  rw [hafter] at hexec
  refine ⟨fun hacc => ?acc, fun o ho => ?mem, hform _ (hasOperand i)⟩
  case acc =>
    rw [hacc] at hexec
    exact ⟨_, hexec, hresult _ _, (shiftA_flag_C f s).trans (hout _ _), zeroNegativeOf_setZN _ _, keeps_shiftA f s,
      fun _ => rfl, rfl⟩
  case mem =>
    rw [ho] at hexec
    obtain ⟨t, hnext, hread, hrest⟩ := modifying_rewritesByte (rewritesByte_shiftAt f (effAddr o s) s)
    have ht : t = (shiftAt f (effAddr o s) s).advance o.form.width := by
      rw [modifying_next, Host.Outcome.next.injEq] at hnext
      exact hnext.symm
    have hcarry : t.flag .C = (s.readByte (effAddr o s)).getLsbD out := by
      rw [ht, State.advance_flag, shiftAt_flag_C, hout]
    exact ⟨t, hexec.trans hnext, hread ▸ hresult _ _, hcarry, hrest⟩

theorem aslFn_toNat (v : Byte) (c : Bool) : (aslFn v c).1.toNat = v.toNat * 2 % 256 := BitVec.toNat_mul v 2

theorem lsrFn_toNat (v : Byte) (c : Bool) : (lsrFn v c).1.toNat = v.toNat / 2 := BitVec.toNat_udiv

theorem rolFn_toNat (v : Byte) (c : Bool) : (rolFn v c).1.toNat = (v.toNat * 2 + c.toNat) % 256 := by
  unfold rolFn
  cases c <;> simp [BitVec.toNat_add, BitVec.toNat_mul]

/-- The carry enters at bit 7, which halving has cleared. -/
theorem rorFn_toNat (v : Byte) (c : Bool) : (rorFn v c).1.toNat = v.toNat / 2 + 128 * c.toNat := by
  have := v.isLt
  unfold rorFn
  cases c
  · simp
  · simp [BitVec.toNat_add]
    omega

theorem shiftsBy_lsr : ShiftsBy .lsr (fun v _ => v / 2) 0 :=
  shiftsBy_of_after rfl (fun _ h => h) lsrFn_toNat fun _ _ => rfl

/-- N is clear where Z and N come from a byte below 128. -/
theorem ZeroNegativeOf.flag_N_of_lt {v : Byte} {t : State} (h : ZeroNegativeOf v t) (hv : v.toNat < 128) :
    t.flag .N = false := by
  rw [h.2]
  exact decide_eq_false (Nat.not_le.mpr hv)

/-- Settles O20: both are the shift with their function; a halved byte is below 128, so LSR clears N. -/
theorem shiftsMoveOutOneBit : Obligations.ShiftsMoveOutOneBit := by
  refine ⟨shiftsBy_of_after rfl (fun _ h => h) aslFn_toNat fun _ _ => rfl, shiftsBy_lsr, fun i s t hm hexec => ?_⟩
  have hhalf (v : Byte) : v.toNat / 2 < 128 := by have := v.isLt; omega
  obtain ⟨hacc, hmem, hx | ⟨o, hx⟩⟩ := shiftsBy_lsr i s hm
  · obtain ⟨u, hu, hresult, -, hzn, -⟩ := hacc hx
    obtain rfl : u = t := Host.Outcome.next.inj (hu.symm.trans hexec)
    exact hzn.flag_N_of_lt (hresult ▸ hhalf _)
  · obtain ⟨u, hu, hresult, -, hzn, -⟩ := hmem o hx
    obtain rfl : u = t := Host.Outcome.next.inj (hu.symm.trans hexec)
    exact hzn.flag_N_of_lt (hresult ▸ hhalf _)

/-- Settles O21: both are the rotate with their function. -/
theorem rotatesMoveThroughCarry : Obligations.RotatesMoveThroughCarry :=
  ⟨shiftsBy_of_after rfl (fun _ h => h) rolFn_toNat fun _ _ => rfl,
    shiftsBy_of_after rfl (fun _ h => h) rorFn_toNat fun _ _ => rfl⟩

end Sys2Proof.Machine
end

section
/-! PROOF. ADC and SBC in numbers, with overflow as signed overflow (spec/45_arith_compare_bit.md R106, R107). -/

namespace Sys2Proof.Machine

/-! ### The carry and overflow of a sum -/

/-- The complemented operand of SBC is what is left to 255 (R107). -/
theorem complement_toNat (m : Byte) : (m ^^^ 0xFF).toNat = 255 - m.toNat := by
  have hnot : m ^^^ 0xFF = ~~~m := BitVec.xor_allOnes
  rw [hnot, BitVec.toNat_not]

/-- The complemented operand of SBC as a signed number. -/
theorem complement_toInt (m : Byte) : (m ^^^ 0xFF).toInt = -m.toInt - 1 := by
  have hm := m.isLt
  rw [BitVec.toInt_eq_toNat_cond, BitVec.toInt_eq_toNat_cond, complement_toNat]
  split_ifs <;> omega

theorem bit_seven_eq_decide (b : Byte) : b.getLsbD 7 = decide (128 ≤ b.toNat) :=
  BitVec.msb_eq_decide b

theorem byte_toInt (b : Byte) : b.toInt = if 128 ≤ b.toNat then (b.toNat : Int) - 256 else b.toNat := by
  rw [BitVec.toInt_eq_toNat_cond]
  split_ifs <;> omega

/-- The bit-7 test of the masked sum is signed overflow: operands of one sign and a result of the other is where the exact
sum leaves -128 to 127 (R106). -/
theorem overflowOut_sumByte (a m : Byte) (c : Bool) :
    overflowOut a m (sumByte a m c) =
      decide (a.toInt + m.toInt + c.toNat < -128 ∨ 127 < a.toInt + m.toInt + c.toNat) := by
  have ha := a.isLt
  have hm := m.isLt
  have hc := c.toNat_le
  rw [overflowOut_eq, bit_seven_eq_decide, bit_seven_eq_decide, bit_seven_eq_decide, sumByte_toNat, byte_toInt, byte_toInt,
    Bool.eq_iff_iff]
  simp only [Bool.and_eq_true, beq_iff_eq, bne_iff_ne, ne_eq, decide_eq_true_eq, decide_eq_decide]
  split_ifs <;> omega

/-! ### ADC -/

/-- Settles O22: every form is ADC's meaning over the operand, whose effect on the operand byte the generic advance leaves but
for PC. -/
theorem addWithCarry : Obligations.AddWithCarry := by
  intro i o s ho hadc sum
  rw [exec_adc ho hadc]
  have hkeeps := (keeps_addToA (operandByte o s) s).trans (keeps_advance _ _ _ o.form.width)
  refine ⟨_, reading_next o addToA s, sumByte_toNat _ _ _, ?carry, ?overflow, zeroNegativeOf_setZN _ _, hkeeps,
    fun _ => rfl, rfl⟩
  all_goals rw [State.advance_flag]
  case carry => exact addToA_flag_C _ s
  case overflow => exact (addToA_flag_V _ s).trans (overflowOut_eq _ _ _)

/-! ### SBC -/

/-- The sum with the complemented operand is the difference with borrow, modulo 256 (R107). -/
theorem sumByte_complement (a m : Byte) (c : Bool) :
    ((sumByte a (m ^^^ 0xFF) c).toNat : Int) = ((a.toNat : Int) - m.toNat - (1 - c.toNat)) % 256 := by
  have hm := m.isLt
  rw [sumByte_toNat, complement_toNat]
  omega

/-- The carry out of the sum with the complemented operand says that no borrow occurred (R107). -/
theorem carryOut_complement (a m : Byte) (c : Bool) :
    carryOut a (m ^^^ 0xFF) c = decide (0 ≤ (a.toNat : Int) - m.toNat - (1 - c.toNat)) := by
  have hm := m.isLt
  rw [carryOut, carrySum, complement_toNat, decide_eq_decide]
  omega

/-- The overflow test of the sum with the complemented operand is that of R107 on the operand itself. -/
theorem overflowOut_complement (a m r : Byte) :
    overflowOut a (m ^^^ 0xFF) r = ((a ^^^ m) &&& (a ^^^ r)).getLsbD 7 := by
  have hbit : (m ^^^ 0xFF).getLsbD 7 = !m.getLsbD 7 := by
    rw [BitVec.getLsbD_xor]
    exact Bool.xor_true _
  rw [overflowOut_eq, hbit, BitVec.getLsbD_and, BitVec.getLsbD_xor, BitVec.getLsbD_xor]
  cases a.getLsbD 7 <;> cases m.getLsbD 7 <;> cases r.getLsbD 7 <;> rfl

/-- Settles O23: every form is SBC's meaning over the operand, which adds the complemented operand byte. -/
theorem subtractWithBorrow : Obligations.SubtractWithBorrow := by
  intro i o s ho hsbc diff
  rw [exec_sbc ho hsbc]
  have hkeeps := (keeps_addToA (operandByte o s ^^^ 0xFF) s).trans (keeps_advance _ _ _ o.form.width)
  refine ⟨_, reading_next o subtractFromA s, sumByte_complement _ _ _, ?carry, ?overflow, zeroNegativeOf_setZN _ _, hkeeps,
    fun _ => rfl, rfl⟩
  all_goals rw [State.advance_flag]
  case carry => exact (addToA_flag_C _ s).trans (carryOut_complement _ _ _)
  case overflow => exact (addToA_flag_V _ s).trans (overflowOut_complement _ _ _)

/-! ### Signed overflow -/

/-- V after an addition to A is signed overflow of the exact sum. -/
theorem addToA_flag_V_eq_decide (m : Byte) (s : State) :
    (addToA m s).flag .V =
      decide (s.a.toInt + m.toInt + (s.flag .C).toNat < -128 ∨ 127 < s.a.toInt + m.toInt + (s.flag .C).toNat) :=
  (addToA_flag_V m s).trans (overflowOut_sumByte s.a m _)

/-- Settles O24: V is the overflow of the exact sum, for SBC that with the complemented operand, `-M - 1`. -/
theorem overflowIsSignedOverflow : Obligations.OverflowIsSignedOverflow := by
  intro i o s ho m
  refine ⟨fun hadc => ⟨_, (exec_adc ho hadc).trans (reading_next o addToA s), ?adc⟩,
    fun hsbc => ⟨_, (exec_sbc ho hsbc).trans (reading_next o subtractFromA s), ?sbc⟩⟩
  all_goals rw [State.advance_flag]
  case adc => exact addToA_flag_V_eq_decide _ s
  case sbc =>
    have hdiff : s.a.toInt + (operandByte o s ^^^ 0xFF).toInt + (s.flag .C).toNat =
        s.a.toInt - m - (1 - (s.flag .C).toNat) := by
      rw [complement_toInt]
      ring
    rw [subtractFromA, addToA_flag_V_eq_decide, hdiff]

end Sys2Proof.Machine
end

section
/-! PROOF. The steps of X and Y, the branches on Z, N and V, SEI and SED, and BRK (spec/42_incdec.md R92 to R95;
spec/46_branch.md R116 to R121; spec/49_flags_control.md R136 to R139). -/

namespace Sys2Proof.Machine

/-- Settles O17: each loads its register with its successor or predecessor. -/
theorem registerIncrementsWrap : Obligations.RegisterIncrementsWrap := by
  intro s
  obtain ⟨-, hinx⟩ := loadsRegister_loadX (s.x + 1) s
  obtain ⟨-, hiny⟩ := loadsRegister_loadY (s.y + 1) s
  obtain ⟨-, hdex⟩ := loadsRegister_loadX (s.x - 1) s
  obtain ⟨-, hdey⟩ := loadsRegister_loadY (s.y - 1) s
  refine ⟨⟨_, exec_eq_after .inx s, ?inx, hinx⟩, ⟨_, exec_eq_after .iny s, ?iny, hiny⟩,
    ⟨_, exec_eq_after .dex s, ?dex, hdex⟩, ⟨_, exec_eq_after .dey s, ?dey, hdey⟩⟩
  case inx => exact byte_add_one_toNat s.x
  case iny => exact byte_add_one_toNat s.y
  case dex => exact byte_sub_one_toNat s.x
  case dey => exact byte_sub_one_toNat s.y

/-! ### Branches -/

/-- An instruction that is the branch operation under a set flag branches when the flag is set. -/
theorem branchesIf_flag_set {i : Byte → Instr} {f : Flag}
    (h : ∀ off s, exec (i off) s = .next (branch (s.flag f) off s)) : BranchesIf i fun s => s.flag f == true :=
  branchesIf_of_exec_eq_branch fun off s => by rw [h, beq_true]

/-- An instruction that is the branch operation under a clear flag branches when the flag is clear. -/
theorem branchesIf_flag_clear {i : Byte → Instr} {f : Flag}
    (h : ∀ off s, exec (i off) s = .next (branch (!s.flag f) off s)) : BranchesIf i fun s => s.flag f == false :=
  branchesIf_of_exec_eq_branch fun off s => by rw [h, beq_false]

/-- Settles O28: each of the six is the shared branch operation under its flag, set or clear. -/
theorem zeroNegativeOverflowBranches : Obligations.ZeroNegativeOverflowBranches := by
  refine ⟨?beq, ?bne, ?bmi, ?bpl, ?bvc, ?bvs⟩
  case beq => exact branchesIf_flag_set fun off => exec_eq_after (.beq off)
  case bne => exact branchesIf_flag_clear fun off => exec_eq_after (.bne off)
  case bmi => exact branchesIf_flag_set fun off => exec_eq_after (.bmi off)
  case bpl => exact branchesIf_flag_clear fun off => exec_eq_after (.bpl off)
  case bvc => exact branchesIf_flag_clear fun off => exec_eq_after (.bvc off)
  case bvs => exact branchesIf_flag_set fun off => exec_eq_after (.bvs off)

/-! ### SEI, SED and BRK -/

/-- A core that has a one-byte instruction runs it where its opcode byte lies at PC. -/
theorem step_of_one_byte {s : State} {i : Instr} (hrun : s.run = .running) (hwf : i.wf s.pSeiSed = true)
    (hbytes : i.operand.bytes = []) (hop : s.readByte s.pc = i.opcode) : step s = exec i (s.setPC (s.pc + 1)) := by
  have hlie : BytesAt (encode i) s.pc s := by simp [encode, hbytes, hop]
  exact stepRunsEncodedInstruction s i hrun hwf hlie

/-- A Running core whose grid has no entry for the byte `op` faults where it fetches `op`. -/
theorem step_faults_of_table {s : State} {op : Byte} (hrun : s.run = .running) (htable : table s.pSeiSed op = none)
    (hop : s.readByte s.pc = op) : ∃ t, step s = .next t ∧ t.run = .faulted (.unimplementedOpcode op s.pc) := by
  subst hop
  obtain ⟨t, hstep, hfaulted, -⟩ := unmappedOpcodeFaults s hrun htable
  exact ⟨t, hstep, hfaulted⟩

/-- Settles O39: SEI and SED are writes of one flag; with P_SEI_SED the core has them, without it the grid has no entry. -/
theorem seiSedUnderParameter : Obligations.SeiSedUnderParameter := by
  refine ⟨setsOneFlag_of_exec_eq_setFlag (exec_eq_after .sei), setsOneFlag_of_exec_eq_setFlag (exec_eq_after .sed),
    fun s hrun hp => ⟨fun hop => ?sei, fun hop => ?sed⟩, fun s hrun hp => ⟨fun hop => ?noSei, fun hop => ?noSed⟩⟩
  case sei => exact step_of_one_byte hrun hp rfl hop
  case sed => exact step_of_one_byte hrun hp rfl hop
  case noSei => exact step_faults_of_table hrun (by rw [hp]; rfl) hop
  case noSed => exact step_faults_of_table hrun (by rw [hp]; rfl) hop

theorem exec_brk (s : State) : exec .brk s = .next s.halt := exec_eq_after .brk s

/-- Settles O40: BRK halts and writes nothing else, and every core has it. -/
theorem brkHalts : Obligations.BrkHalts := by
  refine ⟨fun s => ⟨_, exec_brk s, rfl, s.halt_reg, rfl, rfl, rfl, rfl⟩, fun s hrun hop => ?_⟩
  exact ⟨_, (step_of_one_byte (i := .brk) hrun rfl rfl hop).trans (exec_brk _), rfl, rfl⟩

end Sys2Proof.Machine
end

section
/-! PROOF. What every instruction leaves in PC and the run state, and the flags its mnemonic writes (spec/10_state.md R21;
spec/40_fetch_decode_addressing.md R65, R66; spec/60_exceptions.md R140). -/

namespace Sys2Proof.Machine

/-! ### PC -/

theorem afterReading_pc {f : Byte → State → State} (h : ∀ m s, (f m s).pc = s.pc) (o : MemOperand) (s : State) :
    (afterReading f (.mem o) s).pc = s.pc + BitVec.ofNat 16 o.form.width := by
  rw [afterReading, State.advance_pc, h]

theorem afterAt_pc {f : Word → State → State} (h : ∀ ea s, (f ea s).pc = s.pc) (o : MemOperand) (s : State) :
    (afterAt f (.mem o) s).pc = s.pc + BitVec.ofNat 16 o.form.width := by
  rw [afterAt, State.advance_pc, h]

/-- No effect at the effective address moves PC, so a shift or rotate moves it by the generic advance alone. -/
theorem afterShift_pc {f : Byte → Bool → Byte × Bool} {x : Operand} (h : x = .acc ∨ ∃ o, x = .mem o) (s : State) :
    (afterShift f x s).pc = s.pc + BitVec.ofNat 16 x.form.width := by
  obtain rfl | ⟨o, rfl⟩ := h
  · exact (BitVec.add_zero s.pc).symm
  · exact afterAt_pc (fun _ _ => rfl) o s

/-- The meaning of a mnemonic that is not redirecting moves PC past its operand (R63, R66). -/
theorem after_pc {m : Mnemonic} {x : Operand} (h : HasOperand m x) (hm : redirecting m = false) (s : State) :
    (after m x s).pc = s.pc + BitVec.ofNat 16 x.form.width := by
  cases m with
  | bcc | bcs | beq | bne | bmi | bpl | bvc | bvs | jmp | jsr | rts => cases hm
  | lda | ldx | ldy | and | ora | eor | adc | sbc | cmp | cpx | cpy | bit =>
    obtain ⟨o, rfl⟩ := h
    exact afterReading_pc (fun _ _ => rfl) o s
  | sta | stx | sty | inc | dec =>
    obtain ⟨o, rfl⟩ := h
    exact afterAt_pc (fun _ _ => rfl) o s
  | asl | lsr | rol | ror => exact afterShift_pc h s
  | _ =>
    obtain rfl := h
    exact (BitVec.add_zero s.pc).symm

/-- Settles O46: every instruction answers the meaning of its mnemonic and operand; the operand width past the opcode byte is the
length of the encoding. -/
theorem nonRedirectingAdvanceByLength : Obligations.NonRedirectingAdvanceByLength := by
  have hexec (i : Instr) (s : State) : ∃ t, exec i s = .next t ∧
      (redirecting i.mnemonic = false → t.pc = s.pc + BitVec.ofNat 16 i.width) :=
    ⟨_, exec_eq_after i s, fun hm => after_pc (hasOperand i) hm s⟩
  refine ⟨hexec, fun s i rest hrun hm hdecode => ?_⟩
  obtain ⟨t, ht, hpc⟩ := hexec i s.pastOpcode
  refine ⟨t, (stepRunsDecodedInstruction s i rest hrun hdecode).trans ht, ?_⟩
  have hlength : (encode i).length = i.width + 1 := (tableEntry i).2
  rw [hpc hm, hlength, State.pastOpcode_pc, BitVec.add_assoc, wordOfNat_succ, BitVec.add_comm 1]

/-! ### The run state -/

theorem Keeps.run_eq {regs : List Reg} {flags : List Flag} {s t : State} (h : Keeps regs flags s t) : t.run = s.run := by
  obtain ⟨-, -, hrun, -⟩ := h
  exact hrun

theorem afterReading_run {f : Byte → State → State} (h : ∀ m s, (f m s).run = s.run) (x : Operand) (s : State) :
    (afterReading f x s).run = s.run := by
  cases x with
  | mem o => exact h _ s
  | _ => rfl

theorem afterAt_run {f : Word → State → State} (h : ∀ ea s, (f ea s).run = s.run) (x : Operand) (s : State) :
    (afterAt f x s).run = s.run := by
  cases x with
  | mem o => exact h _ s
  | _ => rfl

/-- Every mnemonic but BRK leaves the run state: no effect and no access to an operand writes it. -/
theorem after_run {m : Mnemonic} (h : m ≠ .brk) (x : Operand) (s : State) : (after m x s).run = s.run := by
  cases m with
  | brk => exact absurd rfl h
  | lda | ldx | ldy | and | ora | eor | adc | sbc | cmp | cpx | cpy | bit => exact afterReading_run (by intros; rfl) x s
  | sta | stx | sty | inc | dec => exact afterAt_run (by intros; rfl) x s
  | asl | lsr | rol | ror => exact (keeps_afterShift _ x s).run_eq
  | bcc | bcs | beq | bne | bmi | bpl | bvc | bvs => exact (keeps_afterBranch _ x s).run_eq
  | jmp => exact (keeps_afterJump x s).run_eq
  | jsr => exact (keeps_afterCall x s).run_eq
  | _ => rfl

/-- BRK halts and every other mnemonic's meaning leaves a Running core Running (R136). -/
theorem after_run_cases {s : State} (hrun : s.run = .running) (m : Mnemonic) (x : Operand) :
    (m = .brk ∧ (after m x s).run = .halted) ∨ (m ≠ .brk ∧ (after m x s).run = .running) := by
  by_cases hm : m = .brk
  · subst hm
    exact .inl ⟨rfl, rfl⟩
  · exact .inr ⟨hm, (after_run hm x s).trans hrun⟩

theorem opcode_of_brk {i : Instr} (h : i.mnemonic = .brk) : i.opcode = 0x00 := by
  cases i with
  | brk => rfl
  | _ => cases h

theorem table_zero (p : Bool) : table p 0x00 = some ⟨.brk, .imp⟩ := rfl

/-- The fetch answers BRK exactly for the opcode byte 0x00 (R56). -/
theorem mnemonic_eq_brk_iff {s : State} {i : Instr} (h : s.fetchInstr = .ok i) :
    i.mnemonic = .brk ↔ s.readByte s.pc = 0x00 := by
  constructor
  · intro hm
    exact (opcode_of_fetchInstr h).symm.trans (opcode_of_brk hm)
  · intro hop
    have htable := table_of_fetchInstr h
    rw [hop, table_zero, Option.some.injEq] at htable
    exact congrArg Entry.mnemonic htable.symm

/-- Settles O45: the meaning of a fetched instruction leaves the core Running, or Halted for BRK; the fetch of an unmapped byte
alone faults, and 0x00 is mapped. -/
theorem mappedInstructionsNeverFault : Obligations.MappedInstructionsNeverFault := by
  intro s t hrun hstep
  obtain ⟨htable, hfetch⟩ | ⟨i, hfetch⟩ := fetchInstr_cases s
  · rw [step_of_fetchInstr_error hrun hfetch, Host.Outcome.next.injEq] at hstep
    subst hstep
    refine ⟨fun record hrecord => ⟨?_, htable⟩, ?_⟩
    · exact (RunState.faulted.inj hrecord).symm
    · refine iff_of_false (fun h => by cases h) fun hop => ?_
      rw [hop, table_zero] at htable
      cases htable
  · rw [step_of_fetchInstr_ok hrun hfetch, exec_eq_after, Host.Outcome.next.injEq] at hstep
    subst hstep
    rw [← mnemonic_eq_brk_iff hfetch]
    obtain ⟨hm, hafter⟩ | ⟨hm, hafter⟩ := after_run_cases (s := s.pastOpcode) hrun i.mnemonic i.operand
    · rw [hafter]
      exact ⟨fun _ h => (by cases h), iff_of_true rfl hm⟩
    · rw [hafter]
      exact ⟨fun _ h => (by cases h), iff_of_false (fun h => by cases h) hm⟩

/-- Settles O47: `exec` answers the meaning of the mnemonic and the operand, whose frame is `after_writesAsListed`. -/
theorem flagsWrittenOnlyByTheirWriters : Obligations.FlagsWrittenOnlyByTheirWriters := by
  intro i s t f hexec hwriters
  rw [exec_eq_after, Host.Outcome.next.injEq] at hexec
  subst hexec
  obtain ⟨-, hflag, -⟩ := after_writesAsListed i.mnemonic i.operand s
  exact hflag f hwriters

end Sys2Proof.Machine
end

section
/-! PROOF. The canonical form of memory: two canonical memories that read alike are the same list (spec/10_state.md R29;
spec/20_memory.md R34). -/

namespace Sys2Proof.Machine

namespace Memory

/-- A list of cells is canonical when its first cell is a proper one below all others and the rest is canonical. -/
theorem wf_cons {k : Nat} {v : Byte} {m : Memory} :
    Memory.wf ((k, v) :: m) ↔ (k < 65536 ∧ v ≠ unlisted) ∧ (∀ c ∈ m, k < c.1) ∧ Memory.wf m := by
  simp only [Memory.wf, List.pairwise_cons, List.forall_mem_cons]
  tauto

/-- An address below every cell reads as unlisted. -/
theorem get_eq_unlisted {m : Memory} {a : Nat} (h : ∀ c ∈ m, a < c.1) : Memory.get m a = unlisted := by
  induction m with
  | nil => rfl
  | cons c rest ih =>
    obtain ⟨hhead, htail⟩ := List.forall_mem_cons.mp h
    rw [get_cons, if_neg hhead.ne, ih htail]

/-- The first cell's address reads as no address below every cell of another memory does, so it is not below them. -/
theorem not_forall_lt_of_get_eq {k : Nat} {v : Byte} {m m' : Memory} (hv : v ≠ unlisted)
    (h : Memory.get ((k, v) :: m) k = Memory.get m' k) : ¬ ∀ c ∈ m', k < c.1 := by
  intro hlt
  rw [get_cons, if_pos rfl, get_eq_unlisted hlt] at h
  exact hv h

end Memory

/-- Settles O11: by induction over the cells. The two first cells have the same address, since the smaller one's byte would be
unlisted in the other memory, and so the same byte; the memories after them read alike again. -/
theorem canonicalMemoriesReadingAlikeAreEqual : Obligations.CanonicalMemoriesReadingAlikeAreEqual := by
  intro m
  induction m with
  | nil =>
    intro m' _ hm' h
    cases m' with
    | nil => rfl
    | cons c' rest' =>
      obtain ⟨⟨hk', hv'⟩, -, -⟩ := Memory.wf_cons.mp hm'
      exact absurd (by simp) (Memory.not_forall_lt_of_get_eq hv' (h c'.1 hk').symm)
  | cons c rest ih =>
    obtain ⟨k, v⟩ := c
    intro m' hm hm' h
    obtain ⟨⟨hk, hv⟩, hlt, hrest⟩ := Memory.wf_cons.mp hm
    have hnot := Memory.not_forall_lt_of_get_eq hv (h k hk)
    cases m' with
    | nil => exact absurd (by simp) hnot
    | cons c' rest' =>
      obtain ⟨k', v'⟩ := c'
      obtain ⟨⟨hk', hv'⟩, hlt', hrest'⟩ := Memory.wf_cons.mp hm'
      have hnot' := Memory.not_forall_lt_of_get_eq hv' (h k' hk').symm
      have hkk' : k = k' := by
        rw [List.forall_mem_cons] at hnot hnot'
        by_contra hne
        obtain hlt1 | hlt1 := Nat.lt_or_gt_of_ne hne
        · exact hnot ⟨hlt1, fun c hc => hlt1.trans (hlt' c hc)⟩
        · exact hnot' ⟨hlt1, fun c hc => hlt1.trans (hlt c hc)⟩
      subst hkk'
      have hvv' : v = v' := by simpa [Memory.get_cons] using h k hk
      subst hvv'
      refine congrArg _ (ih rest' hrest hrest' fun a ha => ?_)
      by_cases hak : a = k
      · subst hak
        rw [Memory.get_eq_unlisted hlt, Memory.get_eq_unlisted hlt']
      · simpa [Memory.get_cons, hak] using h a ha

end Sys2Proof.Machine
end

section
/-! PROOF. The dispatch loop: operand bytes at PC give the resolver's address and the operand, so that the loop's semantic
functions take the step (spec/40 R60 to R79). -/

namespace Sys2Proof

theorem hi8_zext16 (b : Byte) : hi8 (zext16 b) = 0 := by
  have := b.isLt
  apply BitVec.eq_of_toNat_eq
  rw [hi8_toNat, zext16_toNat]
  exact Nat.div_eq_of_lt this

theorem lo8_zext16 (b : Byte) : lo8 (zext16 b) = b := by
  apply BitVec.eq_of_toNat_eq
  rw [lo8_toNat, zext16_toNat]
  exact Nat.mod_eq_of_lt b.isLt

theorem word_zero_eq_zext16 (b : Byte) : word 0 b = zext16 b := by
  apply BitVec.eq_of_toNat_eq
  rw [word_toNat, zext16_toNat]
  exact Nat.zero_add _

end Sys2Proof

namespace Sys2Proof.Machine

/-! ### Operands in memory -/

/-- A pointer in the zero page is read within page 0 (R76, R77). -/
theorem readWordInPage_zext16 (base : Byte) (s : State) : s.readWordInPage (zext16 base) = zeroPagePointer base s := by
  rw [State.readWordInPage, hi8_zext16, lo8_zext16, word_zero_eq_zext16, zeroPagePointer]

/-- An operand word in memory is the word read there (R38, R50). -/
theorem readWord_of_bytesAt {w addr : Word} {s : State} (h : BytesAt [lo8 w, hi8 w] addr s) : s.readWord addr = w := by
  simp only [bytesAt_cons, bytesAt_nil, and_true] at h
  obtain ⟨hlow, hhigh⟩ := h
  rw [State.readWord, ← hlow, ← hhigh, word_hi8_lo8]

/-- An operand byte in memory is the byte read there. -/
theorem readByte_of_bytesAt {b : Byte} {addr : Word} {s : State} (h : BytesAt [b] addr s) : s.readByte addr = b :=
  ((bytesAt_cons _ _ _ _).mp h).1.symm

/-- The resolver of a memory operand that lies at PC answers its effective address. -/
theorem resolve_of_bytesAt {o : MemOperand} {s : State} (h : BytesAt o.bytes s.pc s) :
    resolve o.form.modeTag s = .ok (effAddr o s) := by
  cases o with
  | imm b => rfl
  | zp b | zpx b | zpy b =>
    rw [← readByte_of_bytesAt h]
    rfl
  | abs w | absx w | absy w =>
    rw [← readWord_of_bytesAt h]
    rfl
  | indx b | indy b =>
    rw [← readByte_of_bytesAt h, effAddr, readWordInPage_zext16]
    rfl

/-- The operand byte of a memory operand that lies at PC is the byte at its effective address (R68, R69). -/
theorem operandByte_of_bytesAt {o : MemOperand} {s : State} (h : BytesAt o.bytes s.pc s) :
    operandByte o s = s.readByte (effAddr o s) := by
  cases o with
  | imm b => exact (readByte_of_bytesAt h).symm
  | _ => rfl

/-- Settles O13: mode by mode, the operand bytes at PC are the operand's own. -/
theorem decodedOperandsResolveAlike : Obligations.DecodedOperandsResolveAlike :=
  fun _ _ h => ⟨resolve_of_bytesAt h, operandByte_of_bytesAt h⟩

/-! ### The loop's step -/

/-- The effective address of an operand that has one; 0 stands for that of any other, as in the loop. -/
def operandAddress (x : Operand) (s : State) : Word :=
  match x with
  | .mem o => effAddr o s
  | _ => 0

/-- The loop resolves the effective address of the operand at PC and never invokes the resolver with NONE (R78). -/
theorem entryAddress_of_bytesAt (m : Mnemonic) {x : Operand} {s : State} (h : BytesAt x.bytes s.pc s) :
    entryAddress ⟨m, x.form⟩ s = .ok (operandAddress x s) := by
  cases x with
  | mem o =>
    have hresolver : entryAddress ⟨m, o.form⟩ s = resolve o.form.modeTag s := by cases o <;> rfl
    exact hresolver.trans (resolve_of_bytesAt h)
  | _ => rfl

theorem advance_zero (s : State) : s.advance 0 = s := by
  rw [State.advance, BitVec.add_zero]
  rfl

/-- What the loop does after the lookup: the semantic function, then the generic advance unless redirecting (R63, R66). -/
def loopBody (m : Mnemonic) (x : Operand) (s : State) : State :=
  if redirecting m then semantic m x.form (operandAddress x s) s
  else (semantic m x.form (operandAddress x s) s).advance x.form.width

/-- With its operand at PC, a mnemonic's meaning over the decoded operand is the loop's: reading the operand byte at the
effective address, the offset byte or the operand word at PC. -/
theorem after_eq_loopBody {m : Mnemonic} {x : Operand} {s : State} (h : HasOperand m x) (hx : BytesAt x.bytes s.pc s) :
    after m x s = loopBody m x s := by
  cases m with
  | lda | ldx | ldy | and | ora | eor | adc | sbc | cmp | cpx | cpy | bit =>
    obtain ⟨o, rfl⟩ := h
    have hread : operandByte o s = s.readByte (effAddr o s) := operandByte_of_bytesAt hx
    rw [after, afterReading, hread]
    rfl
  | sta | stx | sty | inc | dec =>
    obtain ⟨o, rfl⟩ := h
    rfl
  | asl | lsr | rol | ror =>
    obtain rfl | ⟨o, rfl⟩ := h
    · exact (advance_zero _).symm
    · cases o <;> rfl
  | bcc | bcs | beq | bne | bmi | bpl | bvc | bvs =>
    obtain ⟨b, rfl⟩ := h
    have hread : s.readByte s.pc = b := readByte_of_bytesAt hx
    subst hread
    rfl
  | jmp =>
    obtain ⟨w, rfl⟩ | ⟨w, rfl⟩ := h
    all_goals
      have hread : s.readWord s.pc = w := readWord_of_bytesAt hx
      subst hread
      rfl
  | jsr =>
    obtain ⟨w, rfl⟩ := h
    have hread : s.readWord s.pc = w := readWord_of_bytesAt hx
    subst hread
    rfl
  | rts => rfl
  | _ =>
    obtain rfl := h
    exact (advance_zero _).symm

/-- The loop raises where the grid has no entry. -/
theorem loopStep_of_unmapped {s : State} (h : table s.pSeiSed (s.readByte s.pc) = none) :
    loopStep s = s.pastOpcode.raise (.unimplementedOpcode (s.readByte s.pc) s.pc) := by
  simp only [loopStep, h]

/-- The loop runs its body where the grid has the entry of an operand that lies past the opcode byte. -/
theorem loopStep_of_entry {s : State} {m : Mnemonic} {x : Operand}
    (h : table s.pSeiSed (s.readByte s.pc) = some ⟨m, x.form⟩) (hx : BytesAt x.bytes s.pastOpcode.pc s.pastOpcode) :
    loopStep s = loopBody m x s.pastOpcode := by
  simp only [loopStep, h, entryAddress_of_bytesAt m hx, loopBody]

/-- The operand bytes of a fetched instruction lie past the opcode byte. -/
theorem bytesAt_operand_of_fetchInstr {s : State} {i : Instr} (h : s.fetchInstr = .ok i) :
    BytesAt i.operand.bytes s.pastOpcode.pc s.pastOpcode := by
  obtain ⟨-, hbytes⟩ := fetchInstr_eq_ok_iff.mp h
  exact ((bytesAt_cons _ _ _ _).mp hbytes).2

/-- Settles O50: both accounts raise for an unmapped byte; for a fetched instruction both run its mnemonic's meaning, on the
operand that lies past the opcode byte. -/
theorem stepIsTheDispatchLoop : Obligations.StepIsTheDispatchLoop := by
  intro s hrun
  obtain ⟨htable, hfetch⟩ | ⟨i, hfetch⟩ := fetchInstr_cases s
  · rw [step_of_fetchInstr_error hrun hfetch, loopStep_of_unmapped htable]
  · have hx := bytesAt_operand_of_fetchInstr hfetch
    rw [step_of_fetchInstr_ok hrun hfetch, exec_eq_after, after_eq_loopBody (hasOperand i) hx,
      loopStep_of_entry (table_of_fetchInstr hfetch) hx]

end Sys2Proof.Machine
end

section
/-! PROOF. I and D are stored state only: an instruction's meaning, but for PHP's, does the same whatever either holds
(spec/10_state.md R22, R23). -/

namespace Sys2Proof.Machine

/-! ### Two flag writes -/

theorem setFlag_setFlag_same (s : State) (f : Flag) (on v : Bool) :
    (s.setFlag f on).setFlag f v = s.setFlag f v := by
  refine State.ext_fields rfl rfl rfl rfl rfl (status_ext fun g => ?_) rfl rfl rfl
  simp only [State.setFlag_status, getFlag_putFlag]
  split_ifs <;> rfl

theorem setFlag_setFlag_comm {f g : Flag} (h : f ≠ g) (s : State) (on v : Bool) :
    (s.setFlag f on).setFlag g v = (s.setFlag g v).setFlag f on := by
  refine State.ext_fields rfl rfl rfl rfl rfl (status_ext fun k => ?_) rfl rfl rfl
  simp only [State.setFlag_status, getFlag_putFlag]
  by_cases hk : k = g
  · subst hk
    rw [if_pos rfl, if_neg h.symm, if_pos rfl]
  · rw [if_neg hk, if_neg hk]

theorem setFlag_flag_self (s : State) (f : Flag) : s.setFlag f (s.flag f) = s := by
  refine State.ext_fields rfl rfl rfl rfl rfl (status_ext fun g => ?_) rfl rfl rfl
  rw [State.setFlag_status, getFlag_putFlag]
  split_ifs with hg
  · rw [hg]; rfl
  · rfl

/-- A second flag write leaves the first as written, or overwrites it. -/
theorem setFlag_setFlag_exists (s : State) (f : Flag) (on : Bool) (g : Flag) (v : Bool) :
    ∃ b, (s.setFlag f on).setFlag g v = (s.setFlag g v).setFlag f b := by
  by_cases h : f = g
  · subst h
    exact ⟨v, by rw [setFlag_setFlag_same, setFlag_setFlag_same]⟩
  · exact ⟨on, setFlag_setFlag_comm h s on v⟩

/-! ### Effects commute with a write of I or D -/

/-- A flag that no branch tests, no sum reads and no result sets: I or D (R22, R23). -/
abbrev Flag.Inert (f : Flag) : Prop := f = .I ∨ f = .D

/-- The effect does the same, whatever the flag holds, and leaves the flag. -/
def CommutesWithFlag (f : Flag) (effect : State → State) : Prop :=
  ∀ s on, effect (s.setFlag f on) = (effect s).setFlag f on

theorem setA_setFlag (s : State) (f : Flag) (on : Bool) (v : Byte) :
    (s.setFlag f on).setA v = (s.setA v).setFlag f on := rfl

theorem writeByte_setFlag (s : State) (f : Flag) (on : Bool) (addr : Word) (v : Byte) :
    (s.setFlag f on).writeByte addr v = (s.writeByte addr v).setFlag f on := rfl

theorem operandByte_setFlag (o : MemOperand) (s : State) (f : Flag) (on : Bool) :
    operandByte o (s.setFlag f on) = operandByte o s := by
  cases o <;> rfl

theorem effAddr_setFlag (o : MemOperand) (s : State) (f : Flag) (on : Bool) :
    effAddr o (s.setFlag f on) = effAddr o s := by
  cases o <;> rfl

theorem commutes_afterReading {f : Flag} {effect : Byte → State → State} (h : ∀ m, CommutesWithFlag f (effect m))
    (x : Operand) : CommutesWithFlag f (afterReading effect x) := by
  intro s on
  cases x with
  | mem o =>
    rw [afterReading, operandByte_setFlag, h]
    rfl
  | _ => rfl

theorem commutes_afterAt {f : Flag} {effect : Word → State → State} (h : ∀ ea, CommutesWithFlag f (effect ea))
    (x : Operand) : CommutesWithFlag f (afterAt effect x) := by
  intro s on
  cases x with
  | mem o =>
    rw [afterAt, effAddr_setFlag, h]
    rfl
  | _ => rfl

section
variable {f : Flag} (hf : f.Inert)
include hf

/-- The write of another flag; the other lemmas reduce to it, since the flags their effects read are others too. -/
theorem setFlag_comm_of_inert {g : Flag} (hg : ¬ g.Inert) (s : State) (on v : Bool) :
    (s.setFlag f on).setFlag g v = (s.setFlag g v).setFlag f on :=
  setFlag_setFlag_comm (by rintro rfl; exact hg hf) s on v

theorem setFlag_flag_of_inert {g : Flag} (hg : ¬ g.Inert) (s : State) (on : Bool) : (s.setFlag f on).flag g = s.flag g := by
  rw [State.setFlag_flag, if_neg (by rintro rfl; exact hg hf)]

theorem setZN_setFlag (s : State) (on : Bool) (v : Byte) : (s.setFlag f on).setZN v = (s.setZN v).setFlag f on := by
  rw [State.setZN, setFlag_comm_of_inert hf (by decide), setFlag_comm_of_inert hf (by decide), ← State.setZN]

theorem commutes_loadA (m : Byte) : CommutesWithFlag f (loadA m) := fun s on => setZN_setFlag hf (s.setA m) on m

theorem commutes_loadX (m : Byte) : CommutesWithFlag f (loadX m) := fun s on => setZN_setFlag hf (s.setX m) on m

theorem commutes_loadY (m : Byte) : CommutesWithFlag f (loadY m) := fun s on => setZN_setFlag hf (s.setY m) on m

theorem commutes_incrementAt (ea : Word) : CommutesWithFlag f (incrementAt ea) :=
  fun s on => setZN_setFlag hf (s.writeByte ea (s.readByte ea + 1)) on _

theorem commutes_decrementAt (ea : Word) : CommutesWithFlag f (decrementAt ea) :=
  fun s on => setZN_setFlag hf (s.writeByte ea (s.readByte ea - 1)) on _

theorem commutes_pullA : CommutesWithFlag f pullA :=
  fun s on => setZN_setFlag hf (s.afterPull.setA s.pulled) on _

theorem commutes_addToA (m : Byte) : CommutesWithFlag f (addToA m) := by
  intro s on
  simp (disch := decide) only [addToA, State.setFlag_a, setFlag_flag_of_inert hf, setFlag_comm_of_inert hf, setA_setFlag,
    setZN_setFlag hf]

theorem commutes_compareBytes (reg m : Byte) : CommutesWithFlag f (compareBytes reg m) := by
  intro s on
  simp (disch := decide) only [compareBytes, setFlag_comm_of_inert hf, setZN_setFlag hf]

theorem commutes_bitTest (m : Byte) : CommutesWithFlag f (bitTest m) := by
  intro s on
  simp (disch := decide) only [bitTest, State.setFlag_a, setFlag_comm_of_inert hf]

theorem commutes_shiftA (g : Byte → Bool → Byte × Bool) : CommutesWithFlag f (shiftA g) := by
  intro s on
  simp (disch := decide) only [shiftA, State.setFlag_a, setFlag_flag_of_inert hf, setA_setFlag, setFlag_comm_of_inert hf,
    setZN_setFlag hf]

theorem commutes_shiftAt (g : Byte → Bool → Byte × Bool) (ea : Word) : CommutesWithFlag f (shiftAt g ea) := by
  intro s on
  simp (disch := decide) only [shiftAt, State.setFlag_readByte, setFlag_flag_of_inert hf, writeByte_setFlag,
    setFlag_comm_of_inert hf, setZN_setFlag hf]

/-! ### Accesses to the operand -/

theorem commutes_afterShift (g : Byte → Bool → Byte × Bool) (x : Operand) : CommutesWithFlag f (afterShift g x) := by
  by_cases hx : x = .acc
  · subst hx; exact commutes_shiftA hf g
  · intro s on
    rw [afterShift_of_ne_acc g hx, afterShift_of_ne_acc g hx]
    exact commutes_afterAt (commutes_shiftAt hf g) x s on

/-- A branch on another flag takes the same way. -/
theorem commutes_afterBranch {g : Flag} (hg : ¬ g.Inert) (test : Bool → Bool) (x : Operand) :
    CommutesWithFlag f fun s => afterBranch (test (s.flag g)) x s := by
  intro s on
  simp only [setFlag_flag_of_inert hf hg]
  cases x <;> rfl

/-! ### The meaning of an instruction -/

/-- The mnemonics that write I or D, and PHP, which pushes them. -/
def touchesInert : List Mnemonic := [.php, .plp, .cli, .cld, .sei, .sed]

/-- The meaning of every other mnemonic commutes with the write of I or D. -/
theorem commutes_after {m : Mnemonic} (hm : m ∉ touchesInert) (x : Operand) : CommutesWithFlag f (after m x) := by
  intro s on
  cases m with
  | php | plp | cli | cld | sei | sed => exact absurd (by decide) hm
  | lda => exact commutes_afterReading (commutes_loadA hf) x s on
  | ldx => exact commutes_afterReading (commutes_loadX hf) x s on
  | ldy => exact commutes_afterReading (commutes_loadY hf) x s on
  | and => exact commutes_afterReading (effect := andA) (fun _ s on => commutes_loadA hf _ s on) x s on
  | ora => exact commutes_afterReading (effect := orA) (fun _ s on => commutes_loadA hf _ s on) x s on
  | eor => exact commutes_afterReading (effect := xorA) (fun _ s on => commutes_loadA hf _ s on) x s on
  | adc => exact commutes_afterReading (commutes_addToA hf) x s on
  | sbc => exact commutes_afterReading (effect := subtractFromA) (fun _ => commutes_addToA hf _) x s on
  | cmp | cpx | cpy => exact commutes_afterReading (commutes_compareBytes hf _) x s on
  | bit => exact commutes_afterReading (commutes_bitTest hf) x s on
  | sta => exact commutes_afterAt (effect := fun ea s => s.writeByte ea s.a) (fun _ _ _ => rfl) x s on
  | stx => exact commutes_afterAt (effect := fun ea s => s.writeByte ea s.x) (fun _ _ _ => rfl) x s on
  | sty => exact commutes_afterAt (effect := fun ea s => s.writeByte ea s.y) (fun _ _ _ => rfl) x s on
  | inc => exact commutes_afterAt (commutes_incrementAt hf) x s on
  | dec => exact commutes_afterAt (commutes_decrementAt hf) x s on
  | asl | lsr | rol | ror => exact commutes_afterShift hf _ x s on
  | txa | tya => exact commutes_loadA hf _ s on
  | tax | tsx | inx | dex => exact commutes_loadX hf _ s on
  | tay | iny | dey => exact commutes_loadY hf _ s on
  | pla => exact commutes_pullA hf s on
  | bcc | bne | bpl | bvc => exact commutes_afterBranch hf (by decide) not x s on
  | bcs | beq | bmi | bvs => exact commutes_afterBranch hf (by decide) id x s on
  | sec | clc | clv => exact setFlag_comm_of_inert hf (by decide) s on _
  | jmp | jsr => cases x <;> rfl
  | txs | pha | rts | nop | brk => rfl

/-- The meaning of every mnemonic but PHP does the same but for the flag, which holds what it held or what is written. -/
theorem after_setFlag_exists {m : Mnemonic} (hm : m ≠ .php) (x : Operand) (s : State) (on : Bool) :
    ∃ b, after m x (s.setFlag f on) = (after m x s).setFlag f b := by
  by_cases h : m ∈ touchesInert
  · simp only [touchesInert, List.mem_cons, List.not_mem_nil, or_false] at h
    obtain rfl | rfl | rfl | rfl | rfl | rfl := h
    · exact absurd rfl hm
    · exact ⟨(pullStatus s).flag f, (setFlag_flag_self (pullStatus s) f).symm⟩
    all_goals exact setFlag_setFlag_exists s f on _ _
  · exact ⟨on, commutes_after hf h x s on⟩

end

/-! ### The step -/

theorem opcode_of_php {i : Instr} (h : i.mnemonic = .php) : i.opcode = 0x08 := by
  cases i with
  | php => rfl
  | _ => cases h

/-- Settles O49: the fetch reads neither flag, and the meaning of the fetched instruction, which is not PHP, does the same. -/
theorem interruptAndDecimalFlagsAreInert : Obligations.InterruptAndDecimalFlagsAreInert := by
  intro s t f on hf hstep hop hfaulted
  obtain ⟨i, hfetch, rfl⟩ | ⟨record, -, rfl⟩ := step_next_cases hstep
  · have hm : i.mnemonic ≠ .php := fun hm => hop ((opcode_of_fetchInstr hfetch).symm.trans (opcode_of_php hm))
    obtain ⟨hrun, -⟩ := step_cases hstep
    obtain ⟨b, hb⟩ := after_setFlag_exists hf hm i.operand s.pastOpcode on
    have hstep' : step (s.setFlag f on) = .next ((after i.mnemonic i.operand s.pastOpcode).setFlag f b) := by
      rw [← hb, ← exec_eq_after]
      exact step_of_fetchInstr_ok (s := s.setFlag f on) hrun hfetch
    refine ⟨_, hstep', fun r => State.setFlag_reg _ f b r, fun g hg => ?_, rfl, rfl, rfl, rfl⟩
    rw [State.setFlag_flag, if_neg hg]
  · exact absurd ⟨record, rfl⟩ hfaulted

end Sys2Proof.Machine
end

section
/-! PROOF. Reset, load and run: the state after `reset()`, the image and the vector that `load` places, and bounded runs
(spec/70_reset_and_hazards.md R156 to R164; spec/40 R67). -/

namespace Sys2Proof.Machine

/-! ### Reset -/

/-- Settles O55: the registers are the reset values, PC is the word at the vector, and memory is as before. -/
theorem resetSetsRegistersFromVector : Obligations.ResetSetsRegistersFromVector :=
  fun s => ⟨rfl, rfl, rfl, rfl, resetOp_flag s, rfl, readWord_toNat s Config.resetVector, fun _ => rfl, rfl, rfl⟩

/-- Settles O56: memory is empty from construction on, so the vector and the byte it points to are zero, and the byte is BRK. -/
theorem neverLoadedCoreHalts : Obligations.NeverLoadedCoreHalts := by
  obtain ⟨-, hbrk⟩ := brkHalts
  exact ⟨fun p => ⟨rfl, fun _ => rfl⟩, rfl, rfl, hbrk State.reset rfl rfl⟩

/-! ### Load -/

/-- A byte outside the stored bytes' addresses is as before. -/
theorem writeBytes_readByte_outside {bytes : List Byte} {addr b : Word} (s : State)
    (h : ∀ k, k < bytes.length → addr + BitVec.ofNat 16 k ≠ b) : (s.writeBytes addr bytes).readByte b = s.readByte b := by
  induction bytes generalizing s addr with
  | nil => rfl
  | cons v rest ih =>
    have hhead : b ≠ addr := by simpa using (h 0 (Nat.zero_lt_succ _)).symm
    have htail (k : Nat) (hk : k < rest.length) : addr + 1 + BitVec.ofNat 16 k ≠ b := by
      rw [← addr_succ]
      exact h (k + 1) (Nat.succ_lt_succ hk)
    rw [State.writeBytes, ih _ htail, State.writeByte_readByte, if_neg hhead]

/-- The stored byte with no later one at its address stands there (R160, D24). -/
theorem writeBytes_readByte {bytes : List Byte} {addr : Word} (s : State) {k : Nat} (hk : k < bytes.length)
    (hlast : bytes.length ≤ k + 65536) : (s.writeBytes addr bytes).readByte (addr + BitVec.ofNat 16 k) = bytes[k] := by
  induction bytes generalizing s addr k with
  | nil => cases hk
  | cons v rest ih =>
    rw [State.writeBytes]
    cases k with
    | zero =>
      have houtside (j : Nat) (hj : j < rest.length) : addr + 1 + BitVec.ofNat 16 j ≠ addr + BitVec.ofNat 16 0 := by
        rw [List.length_cons] at hlast
        bv_omega
      rw [writeBytes_readByte_outside _ houtside, State.writeByte_readByte, if_pos (by simp)]
      rfl
    | succ k =>
      rw [addr_succ]
      exact ih _ (Nat.lt_of_succ_lt_succ hk) (by rw [List.length_cons] at hlast; omega)

theorem writeBytes_pc (s : State) (addr : Word) (bytes : List Byte) : (s.writeBytes addr bytes).pc = s.pc := by
  induction bytes generalizing s addr with
  | nil => rfl
  | cons b rest ih => exact ih _ _

/-- A host read of another address than the vector's two sees the image alone. -/
theorem load_hostReadByte {a : Nat} (hlow : a % 65536 ≠ 0xFFFC) (hhigh : a % 65536 ≠ 0xFFFD) (bytes : List Byte) (s : State) :
    hostReadByte (load bytes s) a = hostReadByte (s.writeBytes Config.loadBase bytes) a := by
  have hne (w : Word) (h : a % 65536 ≠ w.toNat) : BitVec.ofNat 16 a ≠ w := fun heq => h (by rw [← heq, BitVec.toNat_ofNat])
  rw [hostReadByte, load, loadAt, writeWord_readByte, if_neg (hne (Config.resetVector + 1) hhigh),
    if_neg (hne Config.resetVector hlow), hostReadByte]

/-- Settles O57: the image lies from 0x8000 on, the vector is written after it, and nothing else is. -/
theorem loadPlacesImageAndVector : Obligations.LoadPlacesImageAndVector := by
  intro bytes s
  refine ⟨?image, writeWord_readByte_same _ _ _, writeWord_readByte_next _ _ _, ?outside, keeps_loadAt _ bytes s,
    writeBytes_pc s _ bytes, writeWord_readWord _ _ _⟩
  case image =>
    intro k hk hlast hlow hhigh
    rw [load_hostReadByte hlow hhigh, hostReadByte, BitVec.ofNat_add]
    exact writeBytes_readByte s hk hlast
  case outside =>
    intro a ha hnot hlow hhigh
    rw [load_hostReadByte (by rwa [Nat.mod_eq_of_lt ha]) (by rwa [Nat.mod_eq_of_lt ha])]
    refine writeBytes_readByte_outside s fun k hk heq => hnot k hk ?_
    have := congrArg BitVec.toNat heq
    rw [Config.loadBase, BitVec.toNat_add, BitVec.toNat_ofNat, BitVec.toNat_ofNat, Nat.mod_eq_of_lt ha] at this
    rw [← this]
    exact (Nat.add_mod_mod _ _ _).symm

/-! ### Run -/

/-- A run goes on from the state after its first step (R67). -/
theorem runFor_of_step {s t : State} (h : step s = .next t) (n : Nat) : runFor (n + 1) s = runFor n t := by
  rw [runFor, h]

/-- Where no step is taken a run changes nothing (R67). -/
theorem runFor_of_no_step {s : State} (h : ∀ t, step s ≠ .next t) (n : Nat) : runFor n s = s := by
  cases n with
  | zero => rfl
  | succ n =>
    unfold runFor
    split
    · next t ht => exact absurd ht (h t)
    · rfl
    · rfl

/-- A core that is not Running takes no step. -/
theorem step_ne_next_of_not_running {s : State} (h : s.run ≠ .running) (t : State) : step s ≠ .next t :=
  fun hstep => h (step_cases hstep).1

/-- A run of `m + n` steps is one of `m` steps and one of `n` from where that stops. -/
theorem runFor_add (m n : Nat) (s : State) : runFor (m + n) s = runFor n (runFor m s) := by
  induction m generalizing s with
  | zero => rw [Nat.zero_add, runFor]
  | succ m ih =>
    by_cases h : ∃ t, step s = .next t
    · obtain ⟨t, ht⟩ := h
      rw [Nat.succ_add, runFor_of_step ht, runFor_of_step ht, ih]
    · have hstop := runFor_of_no_step (not_exists.mp h)
      rw [hstop, hstop, hstop]

/-- Settles O58: runs add up, and a step is taken in Running alone. -/
theorem runIsResumable : Obligations.RunIsResumable :=
  fun m n s => ⟨runFor_add m n s, fun h => runFor_of_no_step (step_ne_next_of_not_running h) n,
    fun _ h => runFor_of_step h n⟩

end Sys2Proof.Machine
end
